-- ==== Sys2Proof/Word.lean ====
section
/-! DEFINITION. The words of the block: the widths of 10_state.md R20 and R42, and the two levels of the wire. -/

namespace Sys2Proof

/-- A command word, `cmd` in bits 9:8 and `cmd_arg` in bits 7:0 (30_encoding.md R70). -/
abbrev CmdWord := BitVec 10

/-- The `cmd` port: the command selector (30_encoding.md R71). -/
abbrev Selector := BitVec 2

/-- A byte: `cmd_arg`, a threshold, or one byte of the frame. -/
abbrev Byte := BitVec 8

/-- The frame as the `frame` port shows it (30_encoding.md R80). -/
abbrev FrameWord := BitVec 40

/-- A reading in tenths of a unit (30_encoding.md R81). -/
abbrev Tenths := BitVec 12

/-- FRAME_BITS, fixed at 40: it is not a parameter (00_scope.md R5). -/
abbrev frameBits : Nat := 40

/-- The level of the single wire (00_scope.md R7). -/
inductive Level where
  /-- logic level 0 -/
  | low
  /-- logic level 1 -/
  | high
  deriving DecidableEq, Repr, Inhabited

/-- `High` is logic level 1 and `Low` is logic level 0 (00_scope.md R7). -/
def Level.isHigh : Level → Bool
  | .low => false
  | .high => true

/-- The other level: consecutive windows have opposite levels (42_edge_sampling.md R141). -/
def Level.flip : Level → Level
  | .low => .high
  | .high => .low

/-- The level that a 1-bit port of value `b` puts on the wire (00_scope.md R7). -/
def Level.ofBit : Bool → Level
  | false => .low
  | true => .high

end Sys2Proof
end

