-- ==== Sys2Proof/Syntax.lean ====
section
/-! DEFINITION. The host commands, one constructor for each row of spec/opcode_table.json. -/

namespace Sys2Proof

/-- A host command (30_encoding.md R71). The `cmd_arg` of a command that ignores it is kept, so that a command and
its 10-bit word determine each other (30_encoding.md R72: "every value selects the same behaviour"). -/
inductive Instr where
  /-- NOP, cmd = 00 (40_host_commands.md R100) -/
  | nop (cmd_arg : Byte)
  /-- ACQUIRE, cmd = 01 (40_host_commands.md R101) -/
  | acquire (cmd_arg : Byte)
  /-- SET_THRESHOLD imm8, cmd = 10 (40_host_commands.md R102) -/
  | setThreshold (imm8 : Byte)
  /-- the reserved selector, cmd = 11 (40_host_commands.md R103) -/
  | reserved11 (cmd_arg : Byte)
  deriving DecidableEq, Repr

end Sys2Proof
end

