-- ==== Sys2Proof/Decode.lean ====
section
/-! DEFINITION. Decoding of command words, total on all of them, and the encoder (30_encoding.md R70 to R73). -/

namespace Sys2Proof

/-- `cmd`: bits 9:8 of the command word (30_encoding.md R70). -/
def selectorOf (w : CmdWord) : Selector := w.extractLsb' 8 2

/-- `cmd_arg`: bits 7:0 of the command word (30_encoding.md R70). -/
def argOf (w : CmdWord) : Byte := w.extractLsb' 0 8

/-- The word `{cmd, cmd_arg}` with `cmd` in bits 9:8 (30_encoding.md R70). -/
def commandWord (cmd : Selector) (cmd_arg : Byte) : CmdWord := cmd ++ cmd_arg

/-- The command that `cmd` selects, with `cmd_arg` as it stands (30_encoding.md R71, R72). The four selectors are all
there are, so decoding is total and the last case is selector 11 alone. -/
def decodeFields (cmd : Selector) (cmd_arg : Byte) : Instr :=
  if cmd = 0b00#2 then .nop cmd_arg
  else if cmd = 0b01#2 then .acquire cmd_arg
  else if cmd = 0b10#2 then .setThreshold cmd_arg
  else .reserved11 cmd_arg

/-- The command a 10-bit word stands for (30_encoding.md R71: the rows "cover all 1024 command words exactly once"). -/
def decode (w : CmdWord) : Instr := decodeFields (selectorOf w) (argOf w)

/-- Why a number is no command word. -/
inductive DecodeError where
  /-- "the word has no length other than 10 bits" (30_encoding.md R70): the number does not fit them -/
  | wordTooWide (n : Nat)
  deriving DecidableEq, Repr

/-- The command of a word given as a number, bit 0 its least significant bit. -/
def decodeNumber (n : Nat) : Except DecodeError Instr :=
  if n < 2 ^ 10 then .ok (decode (BitVec.ofNat 10 n)) else .error (.wordTooWide n)

/-- The command of a row of spec/opcode_table.json, whose first `nbits` bits are those of `w` and whose further bits
are 0. The table numbers a word as 30_encoding.md R70 does. -/
def decodeTableWord (nbits w : Nat) : Option Instr :=
  match decodeNumber (w % 2 ^ nbits) with
  | .ok i => some i
  | .error _ => none

/-- The selector of a command (30_encoding.md R71). -/
def Instr.selector : Instr → Selector
  | .nop _ => 0b00#2
  | .acquire _ => 0b01#2
  | .setThreshold _ => 0b10#2
  | .reserved11 _ => 0b11#2

/-- What stands in the `cmd_arg` field of a command's word (30_encoding.md R72). -/
def Instr.arg : Instr → Byte
  | .nop a => a
  | .acquire a => a
  | .setThreshold imm8 => imm8
  | .reserved11 a => a

/-- The word of a command (30_encoding.md R70, R71). -/
def encode (i : Instr) : CmdWord := commandWord i.selector i.arg

/-- One row of the command table (30_encoding.md R71): the words `w` with `w & mask = word_match`. -/
structure OpcodeRow where
  mnemonic : String
  word_match : CmdWord
  mask : CmdWord
  deriving DecidableEq, Repr

/-- The word belongs to the row. -/
def OpcodeRow.fits (r : OpcodeRow) (w : CmdWord) : Bool := w &&& r.mask == r.word_match

def rowNop : OpcodeRow := { mnemonic := "NOP", word_match := 0x000#10, mask := 0x300#10 }
def rowAcquire : OpcodeRow := { mnemonic := "ACQUIRE", word_match := 0x100#10, mask := 0x300#10 }
def rowSetThreshold : OpcodeRow := { mnemonic := "SET_THRESHOLD", word_match := 0x200#10, mask := 0x300#10 }
def rowReserved11 : OpcodeRow := { mnemonic := "RESERVED_11", word_match := 0x300#10, mask := 0x300#10 }

/-- The command table of 30_encoding.md R71, row by row. -/
def opcodeTable : List OpcodeRow := [rowNop, rowAcquire, rowSetThreshold, rowReserved11]

/-- The table's row of a command. -/
def Instr.row : Instr → OpcodeRow
  | .nop _ => rowNop
  | .acquire _ => rowAcquire
  | .setThreshold _ => rowSetThreshold
  | .reserved11 _ => rowReserved11

end Sys2Proof
end

