-- ==== Sys2Proof/Machine/Operands.lean ====
section
/-! DEFINITION. The operands: the immediate of SET_THRESHOLD and the five bytes of a frame. The block has no other
operand form: no register operand (10_state.md R21) and no memory operand (20_memory.md R50). -/

namespace Sys2Proof.Machine

/-- `cmd_arg` as an operand: "an 8-bit unsigned immediate, used as-is" (30_encoding.md R72). -/
def immediate (cmd_arg : Byte) : Byte := cmd_arg

/-- b0, humidityInt = frame[39:32] (30_encoding.md R80). -/
def byte0 (f : FrameWord) : Byte := f.extractLsb' 32 8
/-- b1, humidityFrac = frame[31:24] (30_encoding.md R80). -/
def byte1 (f : FrameWord) : Byte := f.extractLsb' 24 8
/-- b2, tempInt = frame[23:16] (30_encoding.md R80). -/
def byte2 (f : FrameWord) : Byte := f.extractLsb' 16 8
/-- b3, tempFrac = frame[15:8] (30_encoding.md R80). -/
def byte3 (f : FrameWord) : Byte := f.extractLsb' 8 8
/-- b4, checksum = frame[7:0] (30_encoding.md R80). -/
def byte4 (f : FrameWord) : Byte := f.extractLsb' 0 8

/-- A reading in tenths, `10·int + frac`, in its 12-bit field (30_encoding.md R81). -/
def tenthsOf (int frac : Byte) : Tenths := BitVec.ofNat 12 (10 * int.toNat + frac.toNat)

end Sys2Proof.Machine
end

