-- ==== Sys2Proof/Config.lean ====
section
/-! DEFINITION. The implementation parameters of 00_scope.md R5 and the one free value of the model. -/

namespace Sys2Proof

/-- TICK_PERIOD, the real-time length of one step, as `num / den` nanoseconds (00_scope.md R5; it is OPEN,
92_eei_decisions.md D2). DESIGN CHOICE (log entry 4): a period is a positive rational number of nanoseconds. -/
structure TickPeriod where
  num : Nat
  den : Nat
  deriving DecidableEq, Repr

/-- The parameters an elaboration of the block fixes (00_scope.md R5). No step writes them. -/
structure Params where
  /-- TICK_PERIOD -/
  tick_period : TickPeriod
  /-- START_LOW_TICKS: steps the line is driven low -/
  start_low_ticks : Nat
  /-- START_HIGH_TICKS: steps the line is driven high after the low phase -/
  start_high_ticks : Nat
  /-- MAX_WINDOWS: bound on the windows of one acquisition -/
  max_windows : Nat
  /-- MAX_SPIN: a run of this many equal samples aborts sampling -/
  max_spin : Nat
  /-- ACK_WINDOWS: leading windows never classified -/
  ack_windows : Nat
  /-- THRESHOLD_RESET: the reset value of `cfg_thr` -/
  threshold_reset : Byte
  /-- TCW: the width of `tcount` -/
  tcw : Nat
  deriving DecidableEq, Repr

/-- The defaults of 00_scope.md R5. TICK_PERIOD has none there: 1 microsecond, the nominal tick of
92_eei_decisions.md D2, is a DESIGN CHOICE (log entry 4). -/
def Params.default : Params where
  tick_period := { num := 1000, den := 1 }
  start_low_ticks := 18000
  start_high_ticks := 40
  max_windows := 85
  max_spin := 255
  ack_windows := 4
  threshold_reset := 14#8
  tcw := 15

/-- The level that the environment puts on `line_in` in the step number `t`, where the state's queue names none:
a free input of each step (00_scope.md R4, 93_implementation_defined.md I8). Log entry 2. -/
opaque Config.freeLine : Nat → Level

end Sys2Proof
end

