-- ==== Sys2Proof/Machine/State.lean ====
section
/-! DEFINITION. The state of the block as plain data (10_state.md), its reset value, and the reasons a step can stop. -/

namespace Sys2Proof.Machine

/-- The phases of 10_state.md R23. All four 2-bit codes of 30_encoding.md R76 are used. -/
inductive Phase where
  | idle
  | startLow
  | startHigh
  | sample
  deriving DecidableEq, Repr

/-- The outcome of the last completed acquisition (10_state.md R33), the six defined values of 30_encoding.md R77.
"A model may take `outcome` as an enumeration of the six defined values" (R78). -/
inductive DecodeOutcome where
  | none
  | success
  | timeout
  | insufficientBits
  | checksumMismatch
  | implausibleFrame
  deriving DecidableEq, Repr

/-- What the host presents in one step (10_state.md R20). -/
structure HostInput where
  rst : Bool
  cmd : Selector
  cmd_arg : Byte
  deriving DecidableEq, Repr

/-- The reasons a step can fault: none. "The block raises no exceptions. It has no trap, no fault state" (60_exceptions.md
R220), and no behaviour of the block is a fault (93_implementation_defined.md). The type has no constructor. -/
inductive Fault : Type
  deriving DecidableEq, Repr

/-- The reasons a step can be refused. -/
inductive Refusal where
  /-- Raised by an arm of exec whose instruction has no meaning yet. Safe. -/
  | notModelled (mnemonic : String)
  /-- Raised by a step whose elaboration breaks a constraint of 00_scope.md R6: "A model refuses an elaboration that
  breaks one". Safe: nothing is claimed of such a block. -/
  | illegalElaboration
  deriving DecidableEq, Repr

/-- The state. The registers carry the spec's names; 10_state.md R21: they "are the block's entire state". -/
structure State where
  /-- R23 -/
  phase : Phase
  /-- R24: TCW bits; kept below 2^TCW by the one operation that writes it -/
  tcount : Nat
  /-- R25 -/
  win : BitVec 7
  /-- R26 -/
  spin : BitVec 8
  /-- R27 -/
  prev : Level
  /-- R31 -/
  cfg_thr : Byte
  /-- R32 -/
  thr_act : Byte
  /-- R28 -/
  shift : FrameWord
  /-- R29 -/
  nbits : BitVec 6
  /-- R33 -/
  outcome : DecodeOutcome
  /-- R34 -/
  frame_pub : FrameWord
  /-- R34 -/
  frame_valid : Bool
  /-- R35 -/
  reading_valid : Bool
  /-- R35 -/
  hum_tenths : Tenths
  /-- R35 -/
  temp_tenths : Tenths
  /-- R36 -/
  nbits_out : BitVec 6
  /-- R36 -/
  nwin_out : BitVec 7
  /-- R37 -/
  done : Bool
  /-- The elaboration (00_scope.md R5). The model's own field; nothing writes it. Log entry 3. -/
  params : Params
  /-- What the host presents, this step's inputs first. The model's own field. Log entry 1. -/
  host_in : List HostInput
  /-- The levels of the port `line_in`, this step's first. The model's own field. Log entry 2. -/
  line_in : List Level
  /-- How many steps have been taken: the counter of the free levels. The model's own field. Log entry 2. -/
  tick : Nat
  deriving DecidableEq, Repr

/-- The machine right after reset, at the default parameters: the table of 10_state.md R42. -/
def State.reset : State where
  phase := .idle
  tcount := 0
  win := 0#7
  spin := 0#8
  prev := .high
  cfg_thr := Params.default.threshold_reset
  thr_act := Params.default.threshold_reset
  shift := 0#40
  nbits := 0#6
  outcome := .none
  frame_pub := 0#40
  frame_valid := false
  reading_valid := false
  hum_tenths := 0#12
  temp_tenths := 0#12
  nbits_out := 0#6
  nwin_out := 0#7
  done := false
  params := Params.default
  host_in := []
  line_in := []
  tick := 0

end Sys2Proof.Machine
end

