-- ==== Sys2Proof/Machine/Ops.lean ====
section
/-! DEFINITION. The named operations over the inputs and the registers. Each is one group of writes of the spec's
pseudocode; an operation that reads a pre-state S takes it beside the post-state it writes (00_scope.md R7).
The block takes no exception and returns from none (60_exceptions.md R220, R224); the nearest thing to it, completion
(44_checksum_validator.md R188), is `State.complete`. -/

namespace Sys2Proof.Machine

/-! ### The inputs of a step -/

/-- The host that asks nothing: "NOP is the command of a step in which the host asks nothing" (30_encoding.md R71). -/
def HostInput.nop : HostInput := { rst := false, cmd := 0b00#2, cmd_arg := 0#8 }

/-- The inputs `rst`, `cmd` and `cmd_arg` of this step. DEDUCED (log entry 1): with nothing queued the host asks
nothing. -/
def currentHost (s : State) : HostInput :=
  match s.host_in with
  | [] => HostInput.nop
  | h :: _ => h

/-- The command the host presents in this step (30_encoding.md R70, R71). -/
def currentCommand (s : State) : Instr :=
  decode (commandWord (currentHost s).cmd (currentHost s).cmd_arg)

/-- The input `line_in` of this step: the queued level, or the environment's free level (log entry 2). -/
def currentLine (s : State) : Level :=
  match s.line_in with
  | [] => Config.freeLine s.tick
  | l :: _ => l

/-- A step takes one entry of each input: a command word "has an effect only in the step it is presented" (20_memory.md
R54), and `line_in` is "sampled once per step" (10_state.md R20). -/
def State.consumeInputs (s : State) : State :=
  { s with host_in := s.host_in.tail, line_in := s.line_in.tail, tick := s.tick + 1 }

/-- The beginning of a step that is no reset step: its inputs are taken and `done <- 0` (10_state.md R37, R39). -/
def State.beginStep (s : State) : State := { s.consumeInputs with done := false }

/-! ### Reset -/

/-- Every register at its reset value (10_state.md R42, 70_reset_and_hazards.md R250). The elaboration and the inputs are
not registers of the block. -/
def State.applyReset (s : State) : State :=
  { s with
    phase := .idle
    tcount := 0
    win := 0#7
    spin := 0#8
    prev := .high
    cfg_thr := s.params.threshold_reset
    thr_act := s.params.threshold_reset
    shift := 0#40
    nbits := 0#6
    outcome := .none
    frame_pub := 0#40
    frame_valid := false
    reading_valid := false
    hum_tenths := 0#12
    temp_tenths := 0#12
    nbits_out := 0#6
    nwin_out := 0#7
    done := false }

/-! ### Writes of the commands -/

/-- The writes of an accepted ACQUIRE (40_host_commands.md R101). -/
def State.startAcquisition (s : State) : State :=
  { s with
    phase := .startLow
    tcount := 0
    win := 0#7
    spin := 0#8
    prev := .high
    shift := 0#40
    nbits := 0#6
    thr_act := s.cfg_thr
    outcome := .none
    frame_pub := 0#40
    frame_valid := false
    reading_valid := false
    hum_tenths := 0#12
    temp_tenths := 0#12
    nbits_out := 0#6
    nwin_out := 0#7 }

/-- `cfg_thr <- v` (40_host_commands.md R102). -/
def State.setCfgThr (s : State) (v : Byte) : State := { s with cfg_thr := v }

/-! ### Writes of the start sequence and of sampling -/

/-- `tcount <- n`, in its TCW bits (10_state.md R24; log entry 6). -/
def State.setTcount (s : State) (n : Nat) : State := { s with tcount := n % 2 ^ s.params.tcw }

/-- `phase <- START_HIGH`, `tcount <- 0` (41_start_sequence.md R120). -/
def State.enterStartHigh (s : State) : State := { s with phase := .startHigh, tcount := 0 }

/-- `phase <- SAMPLE` with the counters and the level sampling starts from (41_start_sequence.md R121). -/
def State.enterSample (s : State) : State :=
  { s with phase := .sample, tcount := 0, win := 0#7, spin := 0#8, prev := .high }

/-- `spin <- n`, in its 8 bits (10_state.md R26; log entry 6). -/
def State.setSpin (s : State) (n : Nat) : State := { s with spin := BitVec.ofNat 8 n }

/-- A flip opens window `w` at a sample of level `lvl`: the flip sample is its first (42_edge_sampling.md R143). -/
def State.openWindow (s : State) (w : Nat) (lvl : Level) : State :=
  { s with prev := lvl, spin := 1#8, win := BitVec.ofNat 7 w }

/-- `shift <- f`, `nbits <- n` (42_edge_sampling.md R143). -/
def State.setAssembly (s : State) (f : FrameWord) (n : Nat) : State :=
  { s with shift := f, nbits := BitVec.ofNat 6 n }

/-! ### Writes of the evaluation -/

/-- `nbits_out <- n`, `nwin_out <- W` (44_checksum_validator.md R187). -/
def State.publishDiagnostics (s : State) (n W : Nat) : State :=
  { s with nbits_out := BitVec.ofNat 6 n, nwin_out := BitVec.ofNat 7 W }

/-- `frame_pub <- f`, `frame_valid <- 1` (44_checksum_validator.md R182). -/
def State.publishFrame (s : State) (f : FrameWord) : State :=
  { s with frame_pub := f, frame_valid := true }

/-- `outcome <- o` (44_checksum_validator.md R181, R184, R185, R186). -/
def State.setOutcome (s : State) (o : DecodeOutcome) : State := { s with outcome := o }

/-- The reading of frame `f`: `hum_tenths`, `temp_tenths`, `reading_valid <- 1` (44_checksum_validator.md R186). -/
def State.publishReading (s : State) (f : FrameWord) : State :=
  { s with
    hum_tenths := tenthsOf (byte0 f) (byte1 f)
    temp_tenths := tenthsOf (byte2 f) (byte3 f)
    reading_valid := true }

/-- Completion: `phase <- IDLE`, `done <- 1` (44_checksum_validator.md R188). -/
def State.complete (s : State) : State := { s with phase := .idle, done := true }

end Sys2Proof.Machine
end

