-- ==== Sys2Proof/Machine/HostCommands.lean ====
section
/-! DEFINITION. The meanings of the host commands (40_host_commands.md): the command part of a step (10_state.md R39).
Clearing `done` before it and the phase action beside it belong to the step, not to the command (R100). -/

namespace Sys2Proof.Machine

/-- NOP writes nothing (40_host_commands.md R100). -/
def execNop (_cmd_arg : Byte) (s : State) : Host.Outcome State Fault Refusal := .next s

/-- ACQUIRE starts an acquisition in IDLE and is ignored in every other phase (40_host_commands.md R101). -/
def execAcquire (_cmd_arg : Byte) (s : State) : Host.Outcome State Fault Refusal :=
  if s.phase = .idle then .next s.startAcquisition else .next s

/-- SET_THRESHOLD imm8, in every phase (40_host_commands.md R102). -/
def execSetThreshold (imm8 : Byte) (s : State) : Host.Outcome State Fault Refusal :=
  .next (s.setCfgThr (immediate imm8))

/-- The reserved selector "behaves exactly as NOP" (40_host_commands.md R103; log entry 9). -/
def execReserved11 (_cmd_arg : Byte) (s : State) : Host.Outcome State Fault Refusal := .next s

end Sys2Proof.Machine
end

