-- ==== Sys2Proof/Machine/Dispatch.lean ====
section
/-! DEFINITION. One arm for each constructor of Instr: the command part of a step (10_state.md R39). -/

namespace Sys2Proof.Machine

def exec (i : Instr) (s : State) : Host.Outcome State Fault Refusal :=
  match i with
  | .nop cmd_arg => Sys2Proof.Machine.execNop cmd_arg s
  | .acquire cmd_arg => Sys2Proof.Machine.execAcquire cmd_arg s
  | .setThreshold imm8 => Sys2Proof.Machine.execSetThreshold imm8 s
  | .reserved11 cmd_arg => Sys2Proof.Machine.execReserved11 cmd_arg s

end Sys2Proof.Machine
end

