-- ==== Sys2Proof/Machine/ChecksumValidator.lean ====
section
/-! DEFINITION. The checksum_validator: completion check, checksum, sanity filter and result
(44_checksum_validator.md). Everything here runs inside the one step that ends sampling. -/

namespace Sys2Proof.Machine

/-- `(b0 + b1 + b2 + b3) mod 256`, on naturals (44_checksum_validator.md R183). -/
def checksum (f : FrameWord) : Nat :=
  ((byte0 f).toNat + (byte1 f).toNat + (byte2 f).toNat + (byte3 f).toNat) % 256

/-- Fewer than 40 bits: nothing is published, and the number of completed windows chooses the code
(44_checksum_validator.md R181). -/
def incomplete (W : Nat) (post : State) : State :=
  if W < post.params.ack_windows + frameBits then post.setOutcome .insufficientBits
  else post.setOutcome .timeout

/-- A full frame: publish it, then the checks in the order of 44_checksum_validator.md R189 (R182 to R186). -/
def validate (f : FrameWord) (post : State) : State :=
  if checksum f ≠ (byte4 f).toNat then (post.publishFrame f).setOutcome .checksumMismatch
  else if byte0 f = 0#8 ∧ byte2 f = 0#8 then (post.publishFrame f).setOutcome .implausibleFrame
  else ((post.publishFrame f).setOutcome .success).publishReading f

/-- `evaluate(n, f, W)`: diagnostics, result, completion (44_checksum_validator.md R180, R187, R188). -/
def evaluate (n : Nat) (f : FrameWord) (W : Nat) (post : State) : State :=
  if n < frameBits then (incomplete W (post.publishDiagnostics n W)).complete
  else (validate f (post.publishDiagnostics n W)).complete

end Sys2Proof.Machine
end

