-- ==== Sys2Proof/Machine/FrameAssembly.lean ====
section
/-! DEFINITION. Pulse-width classification and frame assembly (43_frame_assembly.md): functions of a completed window,
the register `shift`, the count `nbits` and the latched threshold. -/

namespace Sys2Proof.Machine

/-- A completed window takes part in assembly only if its index is at least ACK_WINDOWS and its level is High
(43_frame_assembly.md R160). -/
def dataWindow (p : Params) (w : Nat) (lvl : Level) : Bool := decide (p.ack_windows ≤ w) && lvl.isHigh

/-- The bit of a data window: 1 if its duration is strictly greater than the threshold, both unsigned
(43_frame_assembly.md R161). -/
def classify (d : Nat) (thr : Byte) : Bool := decide (thr.toNat < d)

/-- `((shift << 1) | b) mod 2^40` (43_frame_assembly.md R162). -/
def shiftIn (shift : FrameWord) (b : Bool) : FrameWord := (shift <<< 1) ||| BitVec.ofNat 40 b.toNat

/-- `assemble(w, lvl, d, shift, nbits, thr)`: the new `(shift, nbits)` after a completed window (43_frame_assembly.md
R160 to R163). A full frame takes no further bit (R163). -/
def assemble (p : Params) (w : Nat) (lvl : Level) (d : Nat) (shift : FrameWord) (nbits : Nat) (thr : Byte) :
    FrameWord × Nat :=
  if dataWindow p w lvl = false then (shift, nbits)
  else if nbits = frameBits then (shift, nbits)
  else (shiftIn shift (classify d thr), nbits + 1)

end Sys2Proof.Machine
end

