-- ==== Sys2Proof/Machine/EdgeSampling.lean ====
section
/-! DEFINITION. Edge sampling (42_edge_sampling.md): internal operations of the SAMPLE phase. `S` is the pre-state,
`line` the sample, `post` the post-state so far. -/

namespace Sys2Proof.Machine

/-- A sample equal to the current level extends the window; the MAX_SPIN-th of a run aborts sampling, and what was
assembled is evaluated (42_edge_sampling.md R142). -/
def equalSample (S post : State) : State :=
  if S.spin.toNat + 1 = S.params.max_spin then evaluate S.nbits.toNat S.shift S.win.toNat post
  else post.setSpin (S.spin.toNat + 1)

/-- `(shift', nbits')` of a flip: the window that ends has the pre-state's index, level and duration
(42_edge_sampling.md R143). -/
def flipAssembly (S : State) : FrameWord × Nat :=
  assemble S.params S.win.toNat S.prev S.spin.toNat S.shift S.nbits.toNat S.thr_act

/-- What every flip writes (42_edge_sampling.md R143). -/
def flipWrites (S : State) (line : Level) (post : State) : State :=
  (post.setAssembly (flipAssembly S).1 (flipAssembly S).2).openWindow (S.win.toNat + 1) line

/-- A flip completes the current window and opens the next; the MAX_WINDOWS-th completed window ends sampling
(42_edge_sampling.md R143, R144). -/
def flipSample (S : State) (line : Level) (post : State) : State :=
  if S.win.toNat + 1 = S.params.max_windows then
    evaluate (flipAssembly S).2 (flipAssembly S).1 (S.win.toNat + 1) (flipWrites S line post)
  else flipWrites S line post

/-- One sample (42_edge_sampling.md R140). -/
def sampleStep (S : State) (line : Level) (post : State) : State :=
  if line = S.prev then equalSample S post else flipSample S line post

end Sys2Proof.Machine
end

