-- ==== Sys2Proof/Machine/StartSequence.lean ====
section
/-! DEFINITION. The start sequence (41_start_sequence.md): internal operations that the phase selects. `S` is the
pre-state, `post` the post-state so far. -/

namespace Sys2Proof.Machine

/-- START_LOW (41_start_sequence.md R120). -/
def startLowStep (S post : State) : State :=
  if S.tcount + 1 = S.params.start_low_ticks then post.enterStartHigh
  else post.setTcount (S.tcount + 1)

/-- START_HIGH (41_start_sequence.md R121). -/
def startHighStep (S post : State) : State :=
  if S.tcount + 1 = S.params.start_high_ticks then post.enterSample
  else post.setTcount (S.tcount + 1)

end Sys2Proof.Machine
end

