-- ==== Sys2Proof/Machine/PhaseAction.lean ====
section
/-! DEFINITION. The phase part of a step and the completion of a step around the command part (10_state.md R39). -/

namespace Sys2Proof.Machine

/-- The action of the pre-state's phase (10_state.md R39). `line` is read in SAMPLE only. -/
def phaseAction (S : State) (line : Level) (post : State) : State :=
  match S.phase with
  | .idle => post
  | .startLow => startLowStep S post
  | .startHigh => startHighStep S post
  | .sample => sampleStep S line post

/-- The phase part of the step from `S` after its command part answered `r`: the phase reads the pre-state `S`. -/
def afterCommand (S : State) (r : Host.Outcome State Fault Refusal) : Host.Outcome State Fault Refusal :=
  match r with
  | .next t => .next (phaseAction S (currentLine S) t)
  | .fault e => .fault e
  | .refused e => .refused e

/-- A reset step: every register at its reset value, no command, no phase action (70_reset_and_hazards.md R250). -/
def resetStep (S : State) : State := S.consumeInputs.applyReset

end Sys2Proof.Machine
end

