-- ==== Sys2Proof/WellFormed.lean ====
section
/-! DEFINITION. The checks on terms: which elaborations are legal (00_scope.md R5, R6) and which commands software may
issue (30_encoding.md R73). Every term of Instr is a command the hardware runs: the types of its fields are the
widths of 30_encoding.md R70, so no further check on it exists. -/

namespace Sys2Proof

/-- A run of `n` steps lasts at least `ns` nanoseconds of real time. -/
abbrev TickPeriod.LastsAtLeast (t : TickPeriod) (n ns : Nat) : Prop := ns * t.den ≤ n * t.num

/-- TICK_PERIOD > 0 (00_scope.md R5), as a proper fraction: numerator and denominator are positive. -/
abbrev TickPeriod.Legal (t : TickPeriod) : Prop := 0 < t.num ∧ 0 < t.den

/-- The bounds on the start sequence: each length is between 1 and 2^TCW, TCW is at least 1, and the wire is driven
low for at least 18 ms (00_scope.md R5, R6; 70_reset_and_hazards.md R261). -/
abbrev Params.StartLegal (p : Params) : Prop :=
  1 ≤ p.tcw ∧
  1 ≤ p.start_low_ticks ∧ p.start_low_ticks ≤ 2 ^ p.tcw ∧
  1 ≤ p.start_high_ticks ∧ p.start_high_ticks ≤ 2 ^ p.tcw ∧
  p.tick_period.LastsAtLeast p.start_low_ticks 18000000

/-- The bounds on sampling: MAX_WINDOWS admits every data window and fits 7 bits, MAX_SPIN fits 8 bits and is at
least 2, ACK_WINDOWS is even and at most 126 (00_scope.md R5, R6). -/
abbrev Params.SamplingLegal (p : Params) : Prop :=
  p.ack_windows + 2 * frameBits - 1 ≤ p.max_windows ∧ p.max_windows ≤ 127 ∧
  2 ≤ p.max_spin ∧ p.max_spin ≤ 255 ∧
  p.ack_windows % 2 = 0 ∧ p.ack_windows ≤ 126

/-- A legal elaboration (00_scope.md R6). -/
abbrev Params.Legal (p : Params) : Prop :=
  p.tick_period.Legal ∧ p.StartLegal ∧ p.SamplingLegal

/-- "Software must not issue" the reserved selector (30_encoding.md R73, 40_host_commands.md R103). A duty of the host:
the block runs the command all the same. -/
def Instr.issuable : Instr → Bool
  | .nop _ => true
  | .acquire _ => true
  | .setThreshold _ => true
  | .reserved11 _ => false

end Sys2Proof
end

