-- ==== Sys2Proof/Machine/Step.lean ====
section
/-! DEFINITION. One step of the block (10_state.md R39), and how a command word is presented to it. -/

namespace Sys2Proof.Machine

/-- One tick (10_state.md R30, R39). An illegal elaboration is refused (00_scope.md R6); `rst` overrides everything
else; otherwise `done` is cleared, the command presented in this step acts, and so does the pre-state's phase. -/
def step (S : State) : Host.Outcome State Fault Refusal :=
  if S.params.Legal then
    if (currentHost S).rst then .next (resetStep S)
    else afterCommand S (exec (currentCommand S) S.beginStep)
  else .refused .illegalElaboration

/-- The command word `w` (bit 0 its least significant bit, the bits from `nbits` up 0) stands where the next step takes
its command: at the head of the host's queue, in place of what stood there, with `rst = 0`. Log entry 12. -/
def State.withFetchWord (s : State) (nbits w : Nat) : State :=
  { s with
    host_in :=
      { rst := false
        cmd := selectorOf (BitVec.ofNat 10 (w % 2 ^ nbits))
        cmd_arg := argOf (BitVec.ofNat 10 (w % 2 ^ nbits)) } :: s.host_in.tail }

end Sys2Proof.Machine
end

