-- ==== Sys2Proof/Machine/HostProgram.lean ====
section
/-! DEFINITION. Host programs (30_encoding.md R74): one line a step, and the two pseudo-instructions with their expansion.
The lines are the toolchain's syntax; the block sees only the inputs they expand to. -/

namespace Sys2Proof.Machine

/-- The lines of a host program (30_encoding.md R74). -/
inductive HostLine where
  | nop
  | acquire
  | setThreshold (imm : Nat)
  | reset
  /-- `WAIT n`: n consecutive NOP steps -/
  | wait (n : Nat)
  /-- `WAITDONE`: NOP steps until the state after a step has `done = 1` -/
  | waitDone
  deriving DecidableEq, Repr

/-- Why a line has no expansion. -/
inductive AsmError where
  /-- "An immediate outside 0 to 255 is an assembly error" (30_encoding.md R74) -/
  | immediateOutOfRange (imm : Nat)
  /-- No number of NOP steps up to the given bound reaches `done = 1`: WAITDONE outside an acquisition. Log entry 14. -/
  | neverDone
  deriving DecidableEq, Repr

/-- A line the assembler accepts (30_encoding.md R74). -/
def HostLine.wellFormed : HostLine → Bool
  | .nop => true
  | .acquire => true
  | .setThreshold imm => decide (imm ≤ 255)
  | .reset => true
  | .wait _ => true
  | .waitDone => true

/-- The step whose inputs are `h`, before those already queued. -/
def stepWith (h : HostInput) (s : State) : Host.Outcome State Fault Refusal :=
  step { s with host_in := h :: s.host_in }

/-- One step for each of the inputs. -/
def runInputs : List HostInput → State → Host.Outcome State Fault Refusal
  | [], s => .next s
  | h :: hs, s =>
    match stepWith h s with
    | .next t => runInputs hs t
    | .fault e => .fault e
    | .refused e => .refused e

/-- `k` steps on the inputs the state holds. -/
def runSteps : Nat → State → Host.Outcome State Fault Refusal
  | 0, s => .next s
  | k + 1, s =>
    match step s with
    | .next t => runSteps k t
    | .fault e => .fault e
    | .refused e => .refused e

/-- The number of NOP steps a WAITDONE line expands to (30_encoding.md R74), sought up to `bound`. -/
def waitDoneLength : Nat → State → Option Nat
  | 0, _ => none
  | bound + 1, s =>
    match stepWith HostInput.nop s with
    | .next t => if t.done then some 1 else (waitDoneLength bound t).map (· + 1)
    | .fault _ => none
    | .refused _ => none

/-- The input of a step that presents the command `i`. -/
def HostInput.ofCommand (i : Instr) : HostInput := { rst := false, cmd := i.selector, cmd_arg := i.arg }

/-- `RESET`: rst = 1 and cmd = 00 (30_encoding.md R74). -/
def HostInput.reset : HostInput := { rst := true, cmd := 0b00#2, cmd_arg := 0#8 }

/-- The steps a line expands to, run from the state `s` (30_encoding.md R74). An assembler writes 0 in an ignored `cmd_arg`
(R72). `bound` limits the search of WAITDONE. -/
def HostLine.expand (bound : Nat) (s : State) : HostLine → Except AsmError (List HostInput)
  | .nop => .ok [HostInput.ofCommand (.nop 0#8)]
  | .acquire => .ok [HostInput.ofCommand (.acquire 0#8)]
  | .setThreshold imm =>
    if imm ≤ 255 then .ok [HostInput.ofCommand (.setThreshold (BitVec.ofNat 8 imm))]
    else .error (.immediateOutOfRange imm)
  | .reset => .ok [HostInput.reset]
  | .wait n => .ok (List.replicate n HostInput.nop)
  | .waitDone =>
    match waitDoneLength bound s with
    | some n => .ok (List.replicate n HostInput.nop)
    | none => .error .neverDone

/-- A host program, line by line: each line expands in the state the lines before it leave. -/
def runProgram (bound : Nat) : List HostLine → State → Except AsmError (Host.Outcome State Fault Refusal)
  | [], s => .ok (.next s)
  | l :: ls, s =>
    match l.expand bound s with
    | .error e => .error e
    | .ok hs =>
      match runInputs hs s with
      | .next t => runProgram bound ls t
      | .fault e => .ok (.fault e)
      | .refused e => .ok (.refused e)

end Sys2Proof.Machine
end

