-- ==== Sys2Proof/Machine/Flags.lean ====
section
/-! DEFINITION. The status flags and the output ports (10_state.md R20, R38, R40) and the codes of `phase` and `outcome`
(30_encoding.md R76, R77). Every output is a function of the state alone. -/

namespace Sys2Proof.Machine

/-- The 2-bit code of a phase (30_encoding.md R76). -/
def Phase.code : Phase → BitVec 2
  | .idle => 0b00#2
  | .startLow => 0b01#2
  | .startHigh => 0b10#2
  | .sample => 0b11#2

/-- The 3-bit code of an outcome (30_encoding.md R77). -/
def DecodeOutcome.code : DecodeOutcome → BitVec 3
  | .none => 0b000#3
  | .success => 0b001#3
  | .timeout => 0b010#3
  | .insufficientBits => 0b011#3
  | .checksumMismatch => 0b100#3
  | .implausibleFrame => 0b101#3

/-- `busy = (phase != IDLE)` (10_state.md R38). -/
def busy (s : State) : Bool := s.phase != .idle

/-- `line_oe` is 1 in START_LOW and START_HIGH (10_state.md R38). -/
def lineOe (s : State) : Bool := s.phase == .startLow || s.phase == .startHigh

/-- `line_out` is 1 in START_HIGH (10_state.md R38). -/
def lineOut (s : State) : Bool := s.phase == .startHigh

/-- The output ports (10_state.md R20). -/
structure Outputs where
  line_oe : Bool
  line_out : Bool
  busy : Bool
  done : Bool
  outcome : BitVec 3
  frame : FrameWord
  frame_valid : Bool
  reading_valid : Bool
  hum_tenths : Tenths
  temp_tenths : Tenths
  nbits_out : BitVec 6
  nwin_out : BitVec 7
  thr : Byte
  deriving DecidableEq, Repr

/-- What the host reads in a state: "every output other than `busy`, `line_oe` and `line_out` is a plain copy of a
register" (10_state.md R20). Reading has no side effect (20_memory.md R54). -/
def outputs (s : State) : Outputs where
  line_oe := lineOe s
  line_out := lineOut s
  busy := busy s
  done := s.done
  outcome := s.outcome.code
  frame := s.frame_pub
  frame_valid := s.frame_valid
  reading_valid := s.reading_valid
  hum_tenths := s.hum_tenths
  temp_tenths := s.temp_tenths
  nbits_out := s.nbits_out
  nwin_out := s.nwin_out
  thr := s.cfg_thr

end Sys2Proof.Machine
end

