-- ==== Sys2Proof/Machine/Platform.lean ====
section
/-! DEFINITION. The wire as the platform's pad shows it (60_exceptions.md R227). The pad is outside the block
(00_scope.md R3): the step takes its samples from `line_in`, whatever drives the wire. -/

namespace Sys2Proof.Machine

/-- The level of the wire in a state: the block's while `line_oe = 1`, otherwise what the sensor leaves on it
(60_exceptions.md R227). -/
def wireLevel (s : State) (sensor : Level) : Level :=
  if lineOe s then Level.ofBit (lineOut s) else sensor

end Sys2Proof.Machine
end

