-- ==== Sys2Proof/Machine/Timing.lean ====
section
/-! DEFINITION. The durations the spec gives in steps, and their reading in real time. No step uses them: "no rule of the
model depends on real time" (70_reset_and_hazards.md R263). -/

namespace Sys2Proof.Machine

/-- The steps of the start sequence, L + H (41_start_sequence.md R122). -/
def startSteps (p : Params) : Nat := p.start_low_ticks + p.start_high_ticks

/-- `base(k)`: the step that takes the first sample of an acquisition accepted at step `k` (41_start_sequence.md R122). -/
def firstSampleStep (p : Params) (k : Nat) : Nat := k + startSteps p + 1

/-- The most SAMPLE steps of one acquisition (42_edge_sampling.md R145). -/
def maxSampleSteps (p : Params) : Nat := p.max_windows * (p.max_spin - 1) + 1

/-- The most steps from the one after an accepted ACQUIRE to the completing one (42_edge_sampling.md R145), which is also
the longest expansion of WAITDONE after an accepted ACQUIRE (30_encoding.md R74). -/
def maxAcquisitionSteps (p : Params) : Nat := startSteps p + maxSampleSteps p

/-- The completing step of an acquisition accepted at step `k` that takes `n` samples (70_reset_and_hazards.md R263). -/
def completingStep (p : Params) (k n : Nat) : Nat := k + startSteps p + n

/-- The quiescent interval in steps, ⌈1 s / TICK_PERIOD⌉ (70_reset_and_hazards.md R254; log entry 17). -/
def quiescentSteps (t : TickPeriod) : Nat := (1000000000 * t.den + t.num - 1) / t.num

end Sys2Proof.Machine
end

