-- ==== Sys2Proof/Machine/Trace.lean ====
section
/-! DEFINITION. The run-length view of the samples of one acquisition (42_edge_sampling.md R146) and what the decoder
assembles from the durations of its windows (43_frame_assembly.md R164). No step uses it: it is the decoder as a pure
function of a trace. -/

namespace Sys2Proof.Machine

/-- The samples of completed runs of the given lengths, of alternating level, the first run at level `lvl`. -/
def runsFrom : Level → List Nat → List Level
  | _, [] => []
  | lvl, n :: ns => List.replicate n lvl ++ runsFrom lvl.flip ns

/-- The level of the run after `W` runs, the first at level `lvl` (42_edge_sampling.md R141: levels alternate). -/
def levelAfter (lvl : Level) (W : Nat) : Level := if W % 2 = 0 then lvl else lvl.flip

/-- The durations of the completed windows of one acquisition: at most MAX_WINDOWS of them, each below MAX_SPIN, and only
window 0 can be empty (42_edge_sampling.md R140, R144). -/
abbrev ValidTrace (p : Params) (ds : List Nat) : Prop :=
  ds.length ≤ p.max_windows ∧ (∀ d ∈ ds, d < p.max_spin) ∧ ∀ d ∈ ds.tail, 1 ≤ d

/-- The samples of an acquisition whose completed windows have the durations `ds`: their runs, then the flip sample that
completes window MAX_WINDOWS − 1, or, if there are fewer windows, the held level that aborts at its MAX_SPIN-th sample
(42_edge_sampling.md R146). -/
def samplesOf (p : Params) (ds : List Nat) : List Level :=
  runsFrom .high ds ++
    if ds.length = p.max_windows then [levelAfter .high ds.length]
    else List.replicate p.max_spin (levelAfter .high ds.length)

/-- `(shift, nbits)` after completed windows of the given durations, the first of them window `w` at level `lvl`: the fold
of `assemble` (43_frame_assembly.md R164). -/
def assembleWindows (p : Params) (thr : Byte) : Nat → Level → FrameWord × Nat → List Nat → FrameWord × Nat
  | _, _, a, [] => a
  | w, lvl, a, d :: ds => assembleWindows p thr (w + 1) lvl.flip (assemble p w lvl d a.1 a.2 thr) ds

/-- The bits of a frame shifted in one after the other (43_frame_assembly.md R162). -/
def shiftInAll : FrameWord → List Bool → FrameWord
  | f, [] => f
  | f, b :: bs => shiftInAll (shiftIn f b) bs

end Sys2Proof.Machine
end

