-- ==== Sys2Proof/Safety.lean ====
section
/-! DEFINITION. The terms claims are made in: kinds of steps, what an evaluation decides, the invariant of the block,
and the duties of the host (70_reset_and_hazards.md). -/

namespace Sys2Proof.Machine

/-! ### Kinds of steps -/

/-- The step from `S` runs a command: the elaboration is legal and `rst = 0`. -/
abbrev RunsCommand (S : State) : Prop := S.params.Legal ∧ (currentHost S).rst = false

/-- The step from `S` is a reset step of a legal elaboration. -/
abbrev IsResetStep (S : State) : Prop := S.params.Legal ∧ (currentHost S).rst = true

/-- The host presents ACQUIRE. -/
def presentsAcquire (S : State) : Bool :=
  match currentCommand S with
  | .nop _ => false
  | .acquire _ => true
  | .setThreshold _ => false
  | .reserved11 _ => false

/-- The step from `S` accepts an ACQUIRE (40_host_commands.md R101). -/
abbrev AcceptsAcquire (S : State) : Prop := RunsCommand S ∧ presentsAcquire S = true ∧ S.phase = .idle

/-- The sample `line` aborts sampling: the MAX_SPIN-th of its run (42_edge_sampling.md R142). -/
abbrev Aborts (S : State) (line : Level) : Prop :=
  line = S.prev ∧ S.spin.toNat + 1 = S.params.max_spin

/-- The sample `line` ends sampling normally: it completes window MAX_WINDOWS − 1 (42_edge_sampling.md R144). -/
abbrev EndsNormally (S : State) (line : Level) : Prop :=
  line ≠ S.prev ∧ S.win.toNat + 1 = S.params.max_windows

/-- The step from `S` with sample `line` is a completing one (44_checksum_validator.md R180, R188). -/
abbrev Completes (S : State) (line : Level) : Prop :=
  S.phase = .sample ∧ (Aborts S line ∨ EndsNormally S line)

/-- No entry of the host's queue is a reset. -/
abbrev NoReset (S : State) : Prop := ∀ h ∈ S.host_in, h.rst = false

/-! ### What an evaluation decides -/

/-- The outcome of an acquisition that ends with `n` bits, the assembled value `f` and `W` completed windows: the table of
44_checksum_validator.md R191. -/
def outcomeOf (p : Params) (n : Nat) (f : FrameWord) (W : Nat) : DecodeOutcome :=
  if n < frameBits then
    if W < p.ack_windows + frameBits then .insufficientBits else .timeout
  else if checksum f ≠ (byte4 f).toNat then .checksumMismatch
  else if byte0 f = 0#8 ∧ byte2 f = 0#8 then .implausibleFrame
  else .success

/-! ### The invariant -/

/-- The bounds of the start-phase counter (10_state.md R24, 41_start_sequence.md R120, R121). -/
abbrev TcountInv (S : State) : Prop :=
  (S.phase = .idle → S.tcount = 0) ∧
  (S.phase = .startLow → S.tcount < S.params.start_low_ticks) ∧
  (S.phase = .startHigh → S.tcount < S.params.start_high_ticks) ∧
  (S.phase = .sample → S.tcount = 0)

/-- The bounds of the sampling counters and the level of the current window (10_state.md R25, R26; 42_edge_sampling.md R140,
R141). -/
abbrev WindowInv (S : State) : Prop :=
  S.win.toNat ≤ S.params.max_windows ∧
  (S.phase ≠ .idle → S.win.toNat < S.params.max_windows) ∧
  S.spin.toNat < S.params.max_spin ∧
  (0 < S.win.toNat → 1 ≤ S.spin.toNat) ∧
  (S.prev = .high ↔ S.win.toNat % 2 = 0) ∧
  (S.phase = .startLow ∨ S.phase = .startHigh → S.win = 0#7 ∧ S.spin = 0#8)

/-- How many data windows lie below window `w`: the even indices from ACK_WINDOWS on (43_frame_assembly.md R160). -/
def dataWindowsBelow (p : Params) (w : Nat) : Nat := (w + 1 - p.ack_windows) / 2

/-- "`nbits` equals the number of data windows completed so far, capped at 40", and `shift` is an `nbits`-bit number
(43_frame_assembly.md R164). -/
abbrev AssemblyInv (S : State) : Prop :=
  S.nbits.toNat = min frameBits (dataWindowsBelow S.params S.win.toNat) ∧
  S.shift.toNat < 2 ^ S.nbits.toNat

/-- Everything an acquisition publishes is cleared (40_host_commands.md R101). -/
abbrev ResultsCleared (S : State) : Prop :=
  S.outcome = .none ∧ S.frame_pub = 0#40 ∧ S.frame_valid = false ∧ S.reading_valid = false ∧
  S.hum_tenths = 0#12 ∧ S.temp_tenths = 0#12 ∧ S.nbits_out = 0#6 ∧ S.nwin_out = 0#7

/-- The results are those of an evaluation of the registers `nbits`, `shift` and `win` (44_checksum_validator.md R182, R186,
R187, R191). -/
abbrev ResultsOfLast (S : State) : Prop :=
  S.outcome = outcomeOf S.params S.nbits.toNat S.shift S.win.toNat ∧
  S.nbits_out = S.nbits ∧ S.nwin_out = S.win ∧
  (S.frame_valid = true ↔ S.nbits.toNat = frameBits) ∧
  S.frame_pub = (if S.frame_valid = true then S.shift else 0#40) ∧
  (S.reading_valid = true ↔ S.outcome = .success) ∧
  S.hum_tenths = (if S.reading_valid = true then tenthsOf (byte0 S.shift) (byte1 S.shift) else 0#12) ∧
  S.temp_tenths = (if S.reading_valid = true then tenthsOf (byte2 S.shift) (byte3 S.shift) else 0#12)

/-- The results are cleared, or in IDLE those of the last acquisition; `done` only with the latter (10_state.md R33 to R37;
70_reset_and_hazards.md R256). -/
abbrev ResultsInv (S : State) : Prop :=
  (ResultsCleared S ∧ S.done = false) ∨ (S.phase = .idle ∧ ResultsOfLast S)

/-- The invariant of a legal elaboration: it holds after reset, and every step keeps it. -/
abbrev BlockInv (S : State) : Prop :=
  S.params.Legal ∧ TcountInv S ∧ WindowInv S ∧ AssemblyInv S ∧ ResultsInv S

/-! ### Duties of the host -/

/-- The inputs of this step keep the host's rules: no reserved selector (30_encoding.md R73) and no ACQUIRE while busy
(70_reset_and_hazards.md R255). The block does not check them. -/
def hostKeepsRules (S : State) : Bool :=
  (currentHost S).rst || ((currentCommand S).issuable && !(presentsAcquire S && busy S))

/-- The accepting steps `ks`, oldest first, are a quiescent interval apart (70_reset_and_hazards.md R254). The block does not
check it. -/
def quiescent (p : Params) : List Nat → Bool
  | [] => true
  | [_] => true
  | a :: b :: ks => decide (a + quiescentSteps p.tick_period ≤ b) && quiescent p (b :: ks)

/-- Bring-up: the first step of a run is a reset step (70_reset_and_hazards.md R252, R253). Before it, every field's value
is unspecified: a claim about such a run is a claim about every state. -/
def beginsWithReset (S : State) : Bool := (currentHost S).rst

end Sys2Proof.Machine
end

