-- ==== Sys2Proof/Certificates/Slice0/Obligations.lean ====
section
/-! DEFINITION. The statements for the provers. Each docstring names the rule of the spec it formalises.

The fields `params`, `host_in`, `line_in` and `tick` of State are the model's own, not the spec's (log entries 1 to 4 and 16). Where
a statement says what they are after a step, that clause is the model's choice and no rule's. -/

open Sys2Proof Sys2Proof.Machine

/-! ### Encodings (30_encoding.md) -/

/-- R70, R71, R72: the encoded word of a command decodes to that command, and a word's command encodes to that word, with
`cmd_arg` at every value. -/
def Obligations.DecodeAndEncodeAreInverse : Prop :=
  (∀ i : Instr, decode (encode i) = i) ∧ (∀ w : CmdWord, encode (decode w) = w)

/-- R71: every 10-bit word belongs to exactly one row of the table, and decodes to that row's command. -/
def Obligations.EveryWordFitsExactlyOneRow : Prop :=
  ∀ w : CmdWord, (∀ r ∈ opcodeTable, (r.fits w = true ↔ r = (decode w).row)) ∧ (decode w).row ∈ opcodeTable

/-- R71, R74 and the examples of 40_host_commands.md R100 to R103: words written out from the encoding. -/
def Obligations.WrittenOutWordsDecode : Prop :=
  decode 0b0000000000#10 = .nop 0#8 ∧ decode 0b0010100101#10 = .nop 0xA5#8 ∧
  decode 0b0100000000#10 = .acquire 0#8 ∧ decode 0b1000010100#10 = .setThreshold 20#8 ∧
  decode 0b1011111111#10 = .setThreshold 255#8 ∧ decode 0b1100000000#10 = .reserved11 0#8 ∧
  decode 0b1111111111#10 = .reserved11 0xFF#8

/-- A row's word, given as a number, is placed where the next step takes its command, and that command is the one the
decoder reads (log entry 12, the model's own convention for 30_encoding.md R70). -/
def Obligations.PlacedWordIsTheNextCommand : Prop :=
  ∀ (s : State) (nbits w : Nat) (i : Instr), decodeTableWord nbits w = some i →
    currentCommand (s.withFetchWord nbits w) = i ∧ (currentHost (s.withFetchWord nbits w)).rst = false

/-- R76 and R77 (the codes), and R78 ("The block never produces codes 110 and 111"). The last clause is for every state, one
before the first reset included, where R252 leaves `outcome` open: there it is the model's choice, the six-value enumeration of
log entry 8. -/
def Obligations.PhaseAndOutcomeCodes : Prop :=
  Phase.code .idle = 0b00#2 ∧ Phase.code .startLow = 0b01#2 ∧ Phase.code .startHigh = 0b10#2 ∧
  Phase.code .sample = 0b11#2 ∧
  DecodeOutcome.code .none = 0b000#3 ∧ DecodeOutcome.code .success = 0b001#3 ∧
  DecodeOutcome.code .timeout = 0b010#3 ∧ DecodeOutcome.code .insufficientBits = 0b011#3 ∧
  DecodeOutcome.code .checksumMismatch = 0b100#3 ∧ DecodeOutcome.code .implausibleFrame = 0b101#3 ∧
  ∀ s : State, (outputs s).outcome ≠ 0b110#3 ∧ (outputs s).outcome ≠ 0b111#3

/-- R72: for NOP, ACQUIRE and the reserved selector every `cmd_arg` selects the same behaviour; SET_THRESHOLD takes it
as it stands. -/
def Obligations.CommandArgumentIsReadBySetThresholdOnly : Prop :=
  ∀ (a b : Byte) (s : State),
    exec (.nop a) s = exec (.nop b) s ∧ exec (.acquire a) s = exec (.acquire b) s ∧
    exec (.reserved11 a) s = exec (.reserved11 b) s ∧
    exec (.setThreshold a) s = .next { s with cfg_thr := a }

/-- R74: the expansion of each line but WAITDONE, for every bound on WAITDONE's search and in every state; an
immediate outside 0 to 255 is an assembly error. -/
def Obligations.HostLinesExpand : Prop :=
  ∀ (bound : Nat) (s : State) (n : Nat),
    HostLine.nop.expand bound s = .ok [{ rst := false, cmd := 0b00#2, cmd_arg := 0#8 }] ∧
    HostLine.acquire.expand bound s = .ok [{ rst := false, cmd := 0b01#2, cmd_arg := 0#8 }] ∧
    HostLine.reset.expand bound s = .ok [{ rst := true, cmd := 0b00#2, cmd_arg := 0#8 }] ∧
    (n ≤ 255 → (HostLine.setThreshold n).expand bound s =
      .ok [{ rst := false, cmd := 0b10#2, cmd_arg := BitVec.ofNat 8 n }]) ∧
    (255 < n → (HostLine.setThreshold n).expand bound s = .error (.immediateOutOfRange n)) ∧
    (HostLine.wait n).expand bound s =
      .ok (List.replicate n { rst := false, cmd := 0b00#2, cmd_arg := 0#8 })

/-! ### The step (10_state.md, 70_reset_and_hazards.md) -/

/-- R39: the step of a legal elaboration with `rst = 0` clears `done`, runs the command of the presented word, and then
the action of the pre-state's phase, which reads the pre-state. -/
def Obligations.StepRunsTheDecodedCommand : Prop :=
  ∀ (S t : State) (h : HostInput) (hs : List HostInput) (i : Instr),
    S.params.Legal → S.host_in = h :: hs → h.rst = false → decode (commandWord h.cmd h.cmd_arg) = i →
    exec i { S with host_in := hs, line_in := S.line_in.tail, tick := S.tick + 1, done := false } = .next t →
    step S = .next
      (match S.phase with
       | .idle => t
       | .startLow => startLowStep S t
       | .startHigh => startHighStep S t
       | .sample => sampleStep S (currentLine S) t)

/-- The model's choice (log entry 1; 30_encoding.md R71 "NOP is the command of a step in which the host asks nothing"):
with nothing queued, the step is that of a presented NOP. -/
def Obligations.EmptyHostQueueIsNop : Prop :=
  ∀ S : State, S.host_in = [] →
    step S = step { S with host_in := [{ rst := false, cmd := 0b00#2, cmd_arg := 0#8 }] }

/-- R250: a step with `rst = 1` gives every register its reset value, whatever the pre-state, the command and the wire;
`cfg_thr` and `thr_act` take THRESHOLD_RESET. The right side holds no register of the pre-state, so a reset held for
several steps gives the same registers after each. What it says of `params`, `host_in`, `line_in` and `tick` is the model's (log entry 16). -/
def Obligations.ResetStepGivesTheResetState : Prop :=
  ∀ (S : State) (h : HostInput) (hs : List HostInput),
    S.params.Legal → S.host_in = h :: hs → h.rst = true →
    step S = .next
      { State.reset with
        cfg_thr := S.params.threshold_reset, thr_act := S.params.threshold_reset, params := S.params,
        host_in := hs, line_in := S.line_in.tail, tick := S.tick + 1 }

/-- R42: the value of every field after a reset step and in `State.reset`, THRESHOLD_RESET being 14 by default, and the outputs
after reset. -/
def Obligations.ResetValues : Prop :=
  (∀ s : State, (s = State.reset ∨ ∃ S, IsResetStep S ∧ step S = .next s) →
    s.phase = .idle ∧ s.tcount = 0 ∧ s.win = 0#7 ∧ s.spin = 0#8 ∧ s.prev = .high ∧
    s.cfg_thr = s.params.threshold_reset ∧ s.thr_act = s.params.threshold_reset ∧
    s.shift = 0#40 ∧ s.nbits = 0#6 ∧ s.outcome = .none ∧ s.frame_pub = 0#40 ∧ s.frame_valid = false ∧
    s.reading_valid = false ∧ s.hum_tenths = 0#12 ∧ s.temp_tenths = 0#12 ∧ s.nbits_out = 0#6 ∧ s.nwin_out = 0#7 ∧
    s.done = false ∧ busy s = false ∧ lineOe s = false ∧ lineOut s = false) ∧
  State.reset.params.threshold_reset = 14#8

/-- 00_scope.md R6: an elaboration that breaks one of the constraints is refused. R6 does not say when: that every step is refused,
a reset step too, is the model's choice (log entry 5), and so is TICK_PERIOD as `num / den` nanoseconds (log entry 4). -/
def Obligations.IllegalElaborationIsRefused : Prop :=
  ∀ S : State,
    (S.params.max_windows + 1 < S.params.ack_windows + 2 * 40 ∨ 127 < S.params.max_windows ∨
     S.params.max_spin < 2 ∨ 255 < S.params.max_spin ∨ S.params.ack_windows % 2 = 1 ∨
     S.params.start_low_ticks < 1 ∨ 2 ^ S.params.tcw < S.params.start_low_ticks ∨
     S.params.start_high_ticks < 1 ∨ 2 ^ S.params.tcw < S.params.start_high_ticks ∨
     S.params.start_low_ticks * S.params.tick_period.num < 18000000 * S.params.tick_period.den) →
    step S = .refused .illegalElaboration

/-- 60_exceptions.md R220: no command faults or is refused, and no step does in an elaboration within the ranges of 00_scope.md
R5 and R6. TICK_PERIOD is `num / den` nanoseconds, the model's choice (log entry 4). -/
def Obligations.NothingFaults : Prop :=
  (∀ (i : Instr) (s : State), ∃ t, exec i s = .next t) ∧
  (∀ S : State,
    let p := S.params
    0 < p.tick_period.num → 0 < p.tick_period.den → 1 ≤ p.tcw →
    1 ≤ p.start_low_ticks → p.start_low_ticks ≤ 2 ^ p.tcw → 1 ≤ p.start_high_ticks → p.start_high_ticks ≤ 2 ^ p.tcw →
    18000000 * p.tick_period.den ≤ p.start_low_ticks * p.tick_period.num →
    p.ack_windows + 2 * 40 - 1 ≤ p.max_windows → p.max_windows ≤ 127 → 2 ≤ p.max_spin → p.max_spin ≤ 255 →
    p.ack_windows % 2 = 0 → p.ack_windows ≤ 126 →
    ∃ t, step S = .next t)

/-- R39: "The command part and the phase part write disjoint fields in every step". In IDLE the phase part writes nothing;
in a busy phase what the command part adds to the phase part is `cfg_thr`. -/
def Obligations.CommandAndPhaseWriteDisjointFields : Prop :=
  ∀ (S t : State) (i : Instr) (line : Level), exec i S.beginStep = .next t →
    (S.phase = .idle → phaseAction S line t = t) ∧
    (S.phase ≠ .idle → phaseAction S line t = { phaseAction S line S.beginStep with cfg_thr := t.cfg_thr })

/-- R39: "`line_in` is read only by the SAMPLE action. In every other phase it is ignored". Two runs of one step that differ
only in the levels queued, or in whether any is queued, end in the same registers. -/
def Obligations.LineIsIgnoredOutsideSample : Prop :=
  ∀ (S : State) (ls : List Level), S.params.Legal → S.phase ≠ .sample →
    ∃ t, step S = .next t ∧ step { S with line_in := ls } = .next { t with line_in := ls.tail }

/-- R23: the transitions of `phase`, each with its condition; "No other transition exists". -/
def Obligations.PhaseTransitions : Prop :=
  ∀ S t : State, step S = .next t →
    (IsResetStep S ∧ t.phase = .idle) ∨
    (RunsCommand S ∧
      ((S.phase = .idle ∧ t.phase = (if presentsAcquire S = true then .startLow else .idle)) ∨
       (S.phase = .startLow ∧
         t.phase = (if S.tcount + 1 = S.params.start_low_ticks then .startHigh else .startLow)) ∨
       (S.phase = .startHigh ∧
         t.phase = (if S.tcount + 1 = S.params.start_high_ticks then .sample else .startHigh)) ∨
       (S.phase = .sample ∧ t.phase = (if Completes S (currentLine S) then .idle else .sample))))

/-- R31: `cfg_thr`, visible on port `thr`, is written only by SET_THRESHOLD and by reset, in every phase. -/
def Obligations.CfgThrIsWrittenBySetThresholdAndReset : Prop :=
  ∀ S t : State, step S = .next t → (outputs t).thr = t.cfg_thr ∧
    t.cfg_thr =
      (if (currentHost S).rst = true then S.params.threshold_reset
       else match currentCommand S with
        | .setThreshold v => v
        | .nop _ => S.cfg_thr
        | .acquire _ => S.cfg_thr
        | .reserved11 _ => S.cfg_thr)

/-- R32: `thr_act` is written only by an accepted ACQUIRE, which copies `cfg_thr`, and by reset. -/
def Obligations.ThrActIsWrittenByAcceptedAcquireAndReset : Prop :=
  ∀ S t : State, step S = .next t →
    t.thr_act =
      (if (currentHost S).rst = true then S.params.threshold_reset
       else if presentsAcquire S = true ∧ S.phase = .idle then S.cfg_thr else S.thr_act)

/-- R37: `done` is 1 in exactly the post-state of a completing step. -/
def Obligations.DoneExactlyAfterACompletingStep : Prop :=
  ∀ S t : State, step S = .next t → (t.done = true ↔ RunsCommand S ∧ Completes S (currentLine S))

/-- R38: `busy`, `line_oe` and `line_out` as functions of `phase`; `line_out` is 0 whenever `line_oe` is 0. -/
def Obligations.OutputsFollowThePhase : Prop :=
  ∀ s : State, (busy s = true ↔ s.phase ≠ .idle) ∧
    (lineOe s = true ↔ s.phase = .startLow ∨ s.phase = .startHigh) ∧
    (lineOut s = true ↔ s.phase = .startHigh) ∧ (lineOe s = false → lineOut s = false)

/-- R20: every output port but `busy`, `line_oe` and `line_out` is a plain copy of a register. -/
def Obligations.PortsCopyRegisters : Prop :=
  ∀ s : State, (outputs s).done = s.done ∧ (outputs s).outcome = s.outcome.code ∧ (outputs s).frame = s.frame_pub ∧
    (outputs s).frame_valid = s.frame_valid ∧ (outputs s).reading_valid = s.reading_valid ∧
    (outputs s).hum_tenths = s.hum_tenths ∧ (outputs s).temp_tenths = s.temp_tenths ∧
    (outputs s).nbits_out = s.nbits_out ∧ (outputs s).nwin_out = s.nwin_out ∧ (outputs s).thr = s.cfg_thr

/-- 60_exceptions.md R227: the wire shows the block's level while `line_oe = 1` (Low in START_LOW, High in START_HIGH) and is
left to the sensor otherwise. -/
def Obligations.WireIsDrivenInTheStartSequenceOnly : Prop :=
  ∀ (s : State) (sensor : Level),
    (s.phase = .startLow → wireLevel s sensor = .low) ∧ (s.phase = .startHigh → wireLevel s sensor = .high) ∧
    (s.phase = .idle ∨ s.phase = .sample → wireLevel s sensor = sensor)

/-! ### The host commands (40_host_commands.md) -/

/-- R100, R103: the commands of `cmd` = 00 and 11, with every `cmd_arg`, answer the state they are given: they write nothing, in
every phase. -/
def Obligations.NopAndReservedSelectorWriteNothing : Prop :=
  ∀ (a : Byte) (s : State),
    decode (commandWord 0b00#2 a) = .nop a ∧ exec (.nop a) s = .next s ∧
    decode (commandWord 0b11#2 a) = .reserved11 a ∧ exec (.reserved11 a) s = .next s

/-- R101: ACQUIRE (`cmd` = 01, with every `cmd_arg`) in IDLE starts an acquisition, latches the threshold and makes `busy` 1; in
every other phase it is ignored. -/
def Obligations.AcquireStartsOrIsIgnored : Prop :=
  ∀ (a : Byte) (s : State),
    let t := { s with
      phase := .startLow, tcount := 0, win := 0#7, spin := 0#8, prev := .high, shift := 0#40, nbits := 0#6,
      thr_act := s.cfg_thr, outcome := .none, frame_pub := 0#40, frame_valid := false, reading_valid := false,
      hum_tenths := 0#12, temp_tenths := 0#12, nbits_out := 0#6, nwin_out := 0#7 }
    decode (commandWord 0b01#2 a) = .acquire a ∧
    (s.phase = .idle → exec (.acquire a) s = .next t ∧ busy t = true) ∧
    (s.phase ≠ .idle → exec (.acquire a) s = .next s)

/-- R102: SET_THRESHOLD (`cmd` = 10, the immediate in `cmd_arg`) writes `cfg_thr`, and through it the port `thr`, in every phase;
`thr_act` keeps its value. -/
def Obligations.SetThresholdWritesCfgThr : Prop :=
  ∀ (imm8 : Byte) (s : State),
    let t := { s with cfg_thr := imm8 }
    decode (commandWord 0b10#2 imm8) = .setThreshold imm8 ∧ exec (.setThreshold imm8) s = .next t ∧
    (outputs t).thr = imm8 ∧ t.thr_act = s.thr_act

/-- R100 to R103: what every command leaves unchanged. The elaboration, the inputs, the tick and `done` by all; `cfg_thr` by
all but SET_THRESHOLD; every other field by all but an accepted ACQUIRE. -/
def Obligations.CommandsChangeOnlyTheirOwnFields : Prop :=
  ∀ (i : Instr) (s t : State), exec i s = .next t →
    (t.params = s.params ∧ t.host_in = s.host_in ∧ t.line_in = s.line_in ∧ t.tick = s.tick ∧ t.done = s.done) ∧
    ((∀ v, i ≠ .setThreshold v) → t.cfg_thr = s.cfg_thr) ∧
    ((∀ a, i ≠ .acquire a) ∨ s.phase ≠ .idle → t = { s with cfg_thr := t.cfg_thr })

/-- 60_exceptions.md R230: in IDLE a step that brings no ACQUIRE and no reset changes no register but `done`, which falls to
0, and `cfg_thr`, which SET_THRESHOLD alone writes. -/
def Obligations.IdleWaits : Prop :=
  ∀ S : State, RunsCommand S → S.phase = .idle → presentsAcquire S = false →
    ∃ thr : Byte,
      step S = .next
        { S with
          done := false, cfg_thr := thr, host_in := S.host_in.tail, line_in := S.line_in.tail, tick := S.tick + 1 } ∧
      ((∀ v, currentCommand S ≠ .setThreshold v) → thr = S.cfg_thr)

/-- 20_memory.md R54: of two ACQUIREs in consecutive steps at most one is accepted. -/
def Obligations.ConsecutiveAcquiresAreNotBothAccepted : Prop :=
  ∀ S t : State, AcceptsAcquire S → step S = .next t → ¬ AcceptsAcquire t

/-- 70_reset_and_hazards.md R257: a SET_THRESHOLD in one step and an ACQUIRE accepted in the next classify with the new
threshold. -/
def Obligations.ThresholdSetBeforeAcquireIsLatched : Prop :=
  ∀ (S : State) (v a : Byte) (hs : List HostInput), S.params.Legal → S.phase = .idle →
    S.host_in = HostInput.ofCommand (.setThreshold v) :: HostInput.ofCommand (.acquire a) :: hs →
    ∃ t u, step S = .next t ∧ (outputs t).thr = v ∧ t.thr_act = S.thr_act ∧
      step t = .next u ∧ u.thr_act = v ∧ u.phase = .startLow

/-! ### The start sequence (41_start_sequence.md) -/

/-- R120: one START_LOW step; the wire is driven Low. No register but `phase`, `tcount`, `done` and (by SET_THRESHOLD) `cfg_thr`
changes. -/
def Obligations.StartLowStep : Prop :=
  ∀ S : State, RunsCommand S → S.phase = .startLow → S.tcount < S.params.start_low_ticks →
    lineOe S = true ∧ lineOut S = false ∧
    ∃ thr : Byte, step S = .next
      (if S.tcount + 1 = S.params.start_low_ticks then
        { S.beginStep with cfg_thr := thr, phase := .startHigh, tcount := 0 }
       else { S.beginStep with cfg_thr := thr, tcount := S.tcount + 1 })

/-- R121: one START_HIGH step; the wire is driven High. -/
def Obligations.StartHighStep : Prop :=
  ∀ S : State, RunsCommand S → S.phase = .startHigh → S.tcount < S.params.start_high_ticks →
    lineOe S = true ∧ lineOut S = true ∧
    ∃ thr : Byte, step S = .next
      (if S.tcount + 1 = S.params.start_high_ticks then
        { S.beginStep with
          cfg_thr := thr, phase := .sample, tcount := 0, win := 0#7, spin := 0#8, prev := .high }
       else { S.beginStep with cfg_thr := thr, tcount := S.tcount + 1 })

/-- R122: after an accepted ACQUIRE the wire is driven Low for exactly START_LOW_TICKS states and then High for exactly
START_HIGH_TICKS; the first sample is taken in the step after them. -/
def Obligations.StartSequenceDuration : Prop :=
  ∀ S : State, AcceptsAcquire S → NoReset S →
    (∀ j, j < S.params.start_low_ticks →
      ∃ t, runSteps (1 + j) S = .next t ∧ t.phase = .startLow ∧ t.tcount = j ∧ lineOe t = true ∧ lineOut t = false) ∧
    (∀ j, j < S.params.start_high_ticks →
      ∃ t, runSteps (1 + S.params.start_low_ticks + j) S = .next t ∧ t.phase = .startHigh ∧ t.tcount = j ∧
        lineOe t = true ∧ lineOut t = true) ∧
    ∃ t, runSteps (1 + S.params.start_low_ticks + S.params.start_high_ticks) S = .next t ∧ t.phase = .sample ∧
      lineOe t = false ∧ t.win = 0#7 ∧ t.spin = 0#8 ∧ t.prev = .high

/-! ### Edge sampling (42_edge_sampling.md) -/

/-- R142: a sample equal to the current level extends the window; the MAX_SPIN-th of a run aborts, and the pre-state's bits,
value and window count are evaluated: the aborted window is neither classified nor counted. -/
def Obligations.EqualSampleExtendsOrAborts : Prop :=
  ∀ S : State, RunsCommand S → S.phase = .sample → currentLine S = S.prev →
    ∃ thr : Byte, step S = .next
      (if S.spin.toNat + 1 = S.params.max_spin then
        evaluate S.nbits.toNat S.shift S.win.toNat { S.beginStep with cfg_thr := thr }
       else { S.beginStep with cfg_thr := thr, spin := S.spin + 1#8 })

/-- R143: a flip completes window `win` with duration `spin` at level `prev`, and opens the next window at its own sample; the
MAX_WINDOWS-th completed window is evaluated in the same step, with the bits it brought. -/
def Obligations.FlipCompletesTheWindow : Prop :=
  ∀ S : State, RunsCommand S → S.phase = .sample → currentLine S ≠ S.prev →
    let a := assemble S.params S.win.toNat S.prev S.spin.toNat S.shift S.nbits.toNat S.thr_act
    ∃ post : State,
      (∃ thr : Byte, post =
        { S.beginStep with
          cfg_thr := thr, shift := a.1, nbits := BitVec.ofNat 6 a.2, prev := currentLine S, spin := 1#8,
          win := S.win + 1#7 }) ∧
      step S = .next
        (if S.win.toNat + 1 = S.params.max_windows then evaluate a.2 a.1 (S.win.toNat + 1) post else post)

/-- R141: window w is High if and only if w is even: every step keeps it, and so a flip always changes the level. -/
def Obligations.WindowsAlternateInLevel : Prop :=
  ∀ S t : State, (S.prev = .high ↔ S.win.toNat % 2 = 0) → step S = .next t →
    (t.prev = .high ↔ t.win.toNat % 2 = 0)

/-- R144: a normal end always evaluates a full frame: `nbits_out` is 40, `nwin_out` is MAX_WINDOWS, and the frame is published. -/
def Obligations.NormalEndEvaluatesAFullFrame : Prop :=
  ∀ S : State, BlockInv S → RunsCommand S → S.phase = .sample → EndsNormally S (currentLine S) →
    ∃ t, step S = .next t ∧ t.phase = .idle ∧ t.nbits_out = 40#6 ∧ t.nwin_out.toNat = S.params.max_windows ∧
      t.frame_valid = true ∧ t.frame_pub = t.shift

/-- R145: from an accepted ACQUIRE the acquisition completes within START_LOW_TICKS + START_HIGH_TICKS +
MAX_WINDOWS·(MAX_SPIN − 1) + 1 further steps, and from any SAMPLE state within MAX_WINDOWS·(MAX_SPIN − 1) + 1, whatever the
wire does and whatever the host presents short of a reset; at the defaults these are 39631 and 21591 steps. -/
def Obligations.EveryAcquisitionEndsInBoundedTime : Prop :=
  (∀ S : State, BlockInv S → AcceptsAcquire S → NoReset S →
    ∃ k t, k ≤ S.params.start_low_ticks + S.params.start_high_ticks +
        (S.params.max_windows * (S.params.max_spin - 1) + 1) ∧
      runSteps (1 + k) S = .next t ∧ t.done = true ∧ t.phase = .idle ∧ t.outcome ≠ .none) ∧
  (∀ S : State, BlockInv S → S.phase = .sample → NoReset S →
    ∃ k t, k ≤ S.params.max_windows * (S.params.max_spin - 1) + 1 ∧
      runSteps k S = .next t ∧ t.done = true ∧ t.phase = .idle ∧ t.outcome ≠ .none) ∧
  maxAcquisitionSteps Params.default = 39631 ∧ maxSampleSteps Params.default = 21591

/-- 30_encoding.md R74: after an accepted ACQUIRE, WAITDONE expands to NOP steps, at most the bound of R74 of them. -/
def Obligations.WaitDoneExpandsWithinItsBound : Prop :=
  ∀ S t : State, BlockInv S → AcceptsAcquire S → step S = .next t →
    ∃ n, n ≤ maxAcquisitionSteps S.params ∧
      HostLine.waitDone.expand (maxAcquisitionSteps S.params) t = .ok (List.replicate n HostInput.nop) ∧
      ∃ u, runInputs (List.replicate n HostInput.nop) t = .next u ∧ u.done = true

/-- R142, R146: `n` samples at the level of the current window, fewer than would abort, add `n` to `spin` and change no other
register but `done` and (by SET_THRESHOLD) `cfg_thr`. -/
def Obligations.EqualSamplesOnlyCount : Prop :=
  ∀ (n : Nat) (S : State), S.params.Legal → S.phase = .sample → NoReset S →
    S.line_in.take (n + 1) = List.replicate (n + 1) S.prev → S.spin.toNat + (n + 1) < S.params.max_spin →
    ∃ thr : Byte, runSteps (n + 1) S = .next
      { S with
        spin := BitVec.ofNat 8 (S.spin.toNat + (n + 1)), done := false, cfg_thr := thr,
        host_in := S.host_in.drop (n + 1), line_in := S.line_in.drop (n + 1), tick := S.tick + (n + 1) }

/-- R142 (corner case): a line stuck at one level from the first sample aborts at its MAX_SPIN-th sample, in window 0 if it is
High and in window 1 if it is Low, and the outcome is INSUFFICIENT_BITS. -/
def Obligations.StuckLineAborts : Prop :=
  ∀ (S : State) (l : Level) (rest : List Level), S.params.Legal → S.phase = .sample → S.win = 0#7 → S.spin = 0#8 →
    S.prev = .high → S.nbits = 0#6 → NoReset S → S.line_in = List.replicate S.params.max_spin l ++ rest →
    ∃ t, runSteps S.params.max_spin S = .next t ∧ t.done = true ∧ t.phase = .idle ∧
      t.outcome = .insufficientBits ∧ t.nwin_out = (if l = .high then 0#7 else 1#7)

/-! ### Classification and assembly (43_frame_assembly.md) -/

/-- R160: a completed window is a data window exactly if its index is at least ACK_WINDOWS and its level is High. -/
def Obligations.DataWindowRule : Prop :=
  ∀ (p : Params) (w : Nat) (lvl : Level), dataWindow p w lvl = true ↔ p.ack_windows ≤ w ∧ lvl = .high

/-- R161: the bit is 1 exactly if the duration is strictly greater than the threshold; a tie gives 0; the threshold 255 gives 0
for every duration a window can have, and the threshold 0 gives 1 for every duration of 1 or more. -/
def Obligations.BitIsOneAboveTheThreshold : Prop :=
  ∀ (d : Nat) (thr : Byte), (classify d thr = true ↔ thr.toNat < d) ∧ (d = thr.toNat → classify d thr = false) ∧
    (d ≤ 254 → classify d 255#8 = false) ∧ (1 ≤ d → classify d 0#8 = true)

/-- R162, R163: a data window shifts its bit in at bit 0 and counts it, until 40 bits are assembled; other windows and later
data windows change nothing, and the count stays at most 40. -/
def Obligations.AssemblyShiftsInUntilFull : Prop :=
  ∀ (p : Params) (w : Nat) (lvl : Level) (d : Nat) (shift : FrameWord) (nbits : Nat) (thr : Byte),
    let a := assemble p w lvl d shift nbits thr
    (dataWindow p w lvl = false → a = (shift, nbits)) ∧
    (nbits = 40 → a = (shift, nbits)) ∧ (nbits ≤ 40 → a.2 ≤ 40) ∧
    (dataWindow p w lvl = true → nbits ≠ 40 →
      a.2 = nbits + 1 ∧ a.1.toNat = (2 * shift.toNat + (classify d thr).toNat) % 2 ^ 40)

/-- R163: every step keeps `nbits` at most 40, and `shift` a number of `nbits` bits ("no bit of `shift` is filled except by rule
R162", R164). -/
def Obligations.NbitsNeverExceedsForty : Prop :=
  ∀ S t : State, S.nbits.toNat ≤ 40 → S.shift.toNat < 2 ^ S.nbits.toNat → step S = .next t →
    t.nbits.toNat ≤ 40 ∧ t.shift.toNat < 2 ^ t.nbits.toNat

/-- 30_encoding.md R80: of 40 bits shifted in, bit n is `frame[39 − n]`, and byte k holds the bits 8k to 8k + 7, the first
received as its most significant. -/
def Obligations.FrameBitsArriveMostSignificantFirst : Prop :=
  ∀ bits : List Bool, bits.length = 40 →
    let f := shiftInAll 0#40 bits
    (∀ n, n < 40 → f.getLsbD (39 - n) = bits.getD n false) ∧
    (∀ j, j < 8 →
      (byte0 f).getLsbD (7 - j) = bits.getD j false ∧ (byte1 f).getLsbD (7 - j) = bits.getD (8 + j) false ∧
      (byte2 f).getLsbD (7 - j) = bits.getD (16 + j) false ∧ (byte3 f).getLsbD (7 - j) = bits.getD (24 + j) false ∧
      (byte4 f).getLsbD (7 - j) = bits.getD (32 + j) false)

/-! ### Evaluation (44_checksum_validator.md) -/

/-- R191: the outcome, `frame_valid` and `reading_valid` of an evaluation of `n` bits, value `f` and `W` windows, in an
acquisition whose results are cleared: the table, row by row. -/
def Obligations.OutcomeTable : Prop :=
  ∀ (n : Nat) (f : FrameWord) (W : Nat) (post : State), ResultsCleared post → n ≤ 40 →
    let t := evaluate n f W post
    let sum := ((byte0 f).toNat + (byte1 f).toNat + (byte2 f).toNat + (byte3 f).toNat) % 256
    (n < 40 → W < post.params.ack_windows + 40 →
      t.outcome = .insufficientBits ∧ t.frame_valid = false ∧ t.reading_valid = false) ∧
    (n < 40 → post.params.ack_windows + 40 ≤ W →
      t.outcome = .timeout ∧ t.frame_valid = false ∧ t.reading_valid = false) ∧
    (n = 40 → sum ≠ (byte4 f).toNat →
      t.outcome = .checksumMismatch ∧ t.frame_valid = true ∧ t.reading_valid = false) ∧
    (n = 40 → sum = (byte4 f).toNat → byte0 f = 0#8 → byte2 f = 0#8 →
      t.outcome = .implausibleFrame ∧ t.frame_valid = true ∧ t.reading_valid = false) ∧
    (n = 40 → sum = (byte4 f).toNat → (byte0 f ≠ 0#8 ∨ byte2 f ≠ 0#8) →
      t.outcome = .success ∧ t.frame_valid = true ∧ t.reading_valid = true)

/-- R182, R187, R188: every evaluation returns to IDLE with `done`, records how far the acquisition got, publishes the frame if it
is full and nothing of a partial one, and leaves every other register as the step wrote it. -/
def Obligations.EvaluationFrame : Prop :=
  ∀ (n : Nat) (f : FrameWord) (W : Nat) (post : State), n ≤ 40 → W ≤ 127 →
    let t := evaluate n f W post
    t.phase = .idle ∧ t.done = true ∧ t.nbits_out.toNat = n ∧ t.nwin_out.toNat = W ∧
    (n = 40 → t.frame_pub = f ∧ t.frame_valid = true) ∧
    (n < 40 → t.frame_pub = post.frame_pub ∧ t.frame_valid = post.frame_valid) ∧
    (t.outcome ≠ .success → t.reading_valid = post.reading_valid ∧ t.hum_tenths = post.hum_tenths ∧
      t.temp_tenths = post.temp_tenths) ∧
    t.tcount = post.tcount ∧ t.win = post.win ∧ t.spin = post.spin ∧ t.prev = post.prev ∧ t.cfg_thr = post.cfg_thr ∧
    t.thr_act = post.thr_act ∧ t.shift = post.shift ∧ t.nbits = post.nbits ∧ t.params = post.params ∧
    t.host_in = post.host_in ∧ t.line_in = post.line_in ∧ t.tick = post.tick

/-- R183: the checksum is the sum of the four data bytes modulo 256: on naturals, and as the 8-bit sum without a carry. -/
def Obligations.ChecksumIsTheSumModulo256 : Prop :=
  ∀ f : FrameWord,
    checksum f = ((byte0 f).toNat + (byte1 f).toNat + (byte2 f).toNat + (byte3 f).toNat) % 256 ∧
    checksum f = (byte0 f + byte1 f + byte2 f + byte3 f).toNat

/-- R184: of a frame whose checksum matches, every frame with the same data bytes and another checksum byte gives
CHECKSUM_MISMATCH, and no reading is made. -/
def Obligations.EveryWrongChecksumByteIsCaught : Prop :=
  ∀ (f g : FrameWord) (W : Nat) (post : State),
    checksum f = (byte4 f).toNat → byte0 g = byte0 f → byte1 g = byte1 f → byte2 g = byte2 f → byte3 g = byte3 f →
    byte4 g ≠ byte4 f →
    (evaluate 40 g W post).outcome = .checksumMismatch ∧
    (evaluate 40 g W post).reading_valid = post.reading_valid ∧
    (evaluate 40 g W post).hum_tenths = post.hum_tenths ∧ (evaluate 40 g W post).temp_tenths = post.temp_tenths

/-- R186 and 30_encoding.md R81: when the checksum matches and an integer part is nonzero, the outcome is SUCCESS and the reading
is published, exact in tenths; it never wraps. -/
def Obligations.ReadingIsExactInTenths : Prop :=
  ∀ (f : FrameWord) (W : Nat) (post : State), checksum f = (byte4 f).toNat → (byte0 f ≠ 0#8 ∨ byte2 f ≠ 0#8) →
    let t := evaluate 40 f W post
    t.outcome = .success ∧ t.reading_valid = true ∧
    t.hum_tenths.toNat = 10 * (byte0 f).toNat + (byte1 f).toNat ∧ t.hum_tenths.toNat ≤ 2805 ∧
    t.temp_tenths.toNat = 10 * (byte2 f).toNat + (byte3 f).toNat ∧ t.temp_tenths.toNat ≤ 2805

/-- R190: the results change only in a completing step, at an accepted ACQUIRE or at reset. -/
def Obligations.ResultsPersistUntilCleared : Prop :=
  ∀ S t : State, step S = .next t → RunsCommand S → ¬ AcceptsAcquire S → ¬ Completes S (currentLine S) →
    t.outcome = S.outcome ∧ t.frame_pub = S.frame_pub ∧ t.frame_valid = S.frame_valid ∧
    t.reading_valid = S.reading_valid ∧ t.hum_tenths = S.hum_tenths ∧ t.temp_tenths = S.temp_tenths ∧
    t.nbits_out = S.nbits_out ∧ t.nwin_out = S.nwin_out

/-! ### The whole machine -/

/-- The invariant holds after reset: in `State.reset`, and after a reset step of any legal elaboration from any state, one outside
the invariant included (70_reset_and_hazards.md R250, R252; 10_state.md R42). TICK_PERIOD in `State.reset` is the model's choice
(log entry 4). -/
def Obligations.ResetSatisfiesTheInvariant : Prop :=
  BlockInv State.reset ∧ ∀ S t : State, IsResetStep S → step S = .next t → BlockInv t

/-- Every step keeps the invariant: the counters keep their bounds, windows alternate, `nbits` counts the data windows capped
at 40, and the results are cleared or those of the last acquisition (10_state.md R24 to R37, 43_frame_assembly.md R164,
44_checksum_validator.md R191). -/
def Obligations.EveryStepKeepsTheInvariant : Prop :=
  ∀ S t : State, BlockInv S → step S = .next t → BlockInv t

/-- 42_edge_sampling.md R146, 43_frame_assembly.md R164: from the first SAMPLE state, the samples of a trace with window
durations `ds` take exactly as many steps as there are samples; the last of them is the completing step, and bits, value,
windows and results are those of the pure fold over the durations. -/
def Obligations.SamplingDecodesTheRunLengths : Prop :=
  ∀ (S : State) (ds : List Nat) (rest : List Level),
    S.params.Legal → S.phase = .sample → S.win = 0#7 → S.spin = 0#8 → S.prev = .high → S.shift = 0#40 →
    S.nbits = 0#6 → ResultsCleared S → NoReset S → ValidTrace S.params ds →
    S.line_in = samplesOf S.params ds ++ rest →
    let a := assembleWindows S.params S.thr_act 0 .high (0#40, 0) ds
    (∀ k, k < (samplesOf S.params ds).length → ∃ u, runSteps k S = .next u ∧ u.phase = .sample) ∧
    ∃ t, runSteps (samplesOf S.params ds).length S = .next t ∧ t.done = true ∧ t.phase = .idle ∧
      t.shift = a.1 ∧ t.nbits.toNat = a.2 ∧ t.win.toNat = ds.length ∧ ResultsOfLast t

/-- 70_reset_and_hazards.md R263: a whole acquisition. An ACQUIRE accepted at a state with threshold `cfg_thr` completes in the
step number L + H + N after it, N the number of samples of its trace, with the results of the pure fold at that threshold,
whatever the host presents meanwhile short of a reset. -/
def Obligations.AcquisitionDecodesItsTrace : Prop :=
  ∀ (S : State) (ds : List Nat) (before rest : List Level),
    AcceptsAcquire S → NoReset S → ValidTrace S.params ds →
    before.length = firstSampleStep S.params 0 →
    S.line_in = before ++ samplesOf S.params ds ++ rest →
    let a := assembleWindows S.params S.cfg_thr 0 .high (0#40, 0) ds
    ∃ t, runSteps (completingStep S.params 0 (samplesOf S.params ds).length + 1) S = .next t ∧
      t.done = true ∧ t.phase = .idle ∧
      t.shift = a.1 ∧ t.nbits.toNat = a.2 ∧ t.win.toNat = ds.length ∧ ResultsOfLast t

/-- R164: the decoder is pure given a timing trace. Two runs on one trace, from states that agree but for `cfg_thr` and the host's
inputs, end in states that agree but for these, as long as the acquisition runs: neither SET_THRESHOLD nor an ACQUIRE while
busy can change what is decoded. The trace is queued, so no free level is compared. -/
def Obligations.DecodingDependsOnTheTraceAlone : Prop :=
  ∀ (k : Nat) (S : State) (thr : Byte) (hs : List HostInput),
    S.params.Legal → NoReset S → (∀ h ∈ hs, h.rst = false) → k ≤ S.line_in.length →
    (∀ j, j < k → ∃ u, runSteps j S = .next u ∧ u.phase ≠ .idle) →
    ∃ (t : State) (thr' : Byte), runSteps k S = .next t ∧
      runSteps k { S with cfg_thr := thr, host_in := hs } = .next { t with cfg_thr := thr', host_in := hs.drop k }

/-- 70_reset_and_hazards.md R254: ⌈1 s / TICK_PERIOD⌉ steps are the least number that lasts a second, and 1 000 000 at a
1 microsecond tick. -/
def Obligations.QuiescentIntervalInSteps : Prop :=
  (∀ (t : TickPeriod) (n : Nat), t.Legal → (quiescentSteps t ≤ n ↔ t.LastsAtLeast n 1000000000)) ∧
  quiescentSteps { num := 1000, den := 1 } = 1000000
end

