-- ==== Sys2Proof/Laws/Assembly.lean ====
section
/-! SUPPORT. What classification and assembly do (43_frame_assembly.md R160 to R164). -/

namespace Sys2Proof.Machine

theorem dataWindow_iff {p : Params} {w : Nat} {lvl : Level} :
    dataWindow p w lvl = true ↔ p.ack_windows ≤ w ∧ lvl = .high := by
  cases lvl <;> simp [dataWindow, Level.isHigh]

/-- The shift register as a number. -/
theorem shiftIn_toNat (f : FrameWord) (b : Bool) : (shiftIn f b).toNat = (2 * f.toNat + b.toNat) % 2 ^ 40 := by
  have hf : (f <<< 1).toNat = (f.toNat % 2 ^ 39) <<< 1 := by
    rw [BitVec.toNat_shiftLeft, Nat.shiftLeft_eq, Nat.shiftLeft_eq]; omega
  have hn : (BitVec.ofNat 40 b.toNat).toNat = b.toNat := by cases b <;> rfl
  have hb : b.toNat < 2 ^ 1 := by cases b <;> decide
  rw [shiftIn, BitVec.toNat_or, hf, hn, ← Nat.shiftLeft_add_eq_or_of_lt hb, Nat.shiftLeft_eq]
  omega

variable {p : Params} {w : Nat} {lvl : Level} {d : Nat} {shift : FrameWord} {nbits : Nat} {thr : Byte}

/-- All `assemble` can answer. -/
theorem assemble_cases :
    (dataWindow p w lvl = false ∧ assemble p w lvl d shift nbits thr = (shift, nbits)) ∨
    (nbits = frameBits ∧ assemble p w lvl d shift nbits thr = (shift, nbits)) ∨
    (dataWindow p w lvl = true ∧ nbits ≠ frameBits ∧
      assemble p w lvl d shift nbits thr = (shiftIn shift (classify d thr), nbits + 1)) := by
  by_cases hw : dataWindow p w lvl = true
  · by_cases hn : nbits = frameBits
    · exact .inr (.inl ⟨hn, by simp [assemble, hw, hn]⟩)
    · exact .inr (.inr ⟨hw, hn, by rw [assemble, if_neg (by simp [hw]), if_neg hn]⟩)
  · exact .inl ⟨by simpa using hw, by simp [assemble, hw]⟩

theorem assemble_bits_le (h : nbits ≤ frameBits) : (assemble p w lvl d shift nbits thr).2 ≤ frameBits := by
  obtain ⟨_, e⟩ | ⟨_, e⟩ | ⟨_, hn, e⟩ := assemble_cases (p := p) (w := w) (lvl := lvl) (d := d) (shift := shift)
    (nbits := nbits) (thr := thr) <;> rw [e] <;> simp only
  · exact h
  · exact h
  · omega

end Sys2Proof.Machine
end

