-- ==== Sys2Proof/Laws/Encoding.lean ====
section
/-! SUPPORT. The fields of a command word (30_encoding.md R70). -/

namespace Sys2Proof

/-- `{cmd, cmd_arg}` as a number. -/
theorem commandWord_toNat (c : Selector) (a : Byte) : (commandWord c a).toNat = c.toNat * 256 + a.toNat := by
  have h : (commandWord c a).toNat = c.toNat <<< 8 ||| a.toNat := BitVec.toNat_append c a
  rw [h, ← Nat.shiftLeft_add_eq_or_of_lt a.isLt, Nat.shiftLeft_eq]

theorem selectorOf_toNat (w : CmdWord) : (selectorOf w).toNat = w.toNat / 256 := by
  have := w.isLt
  simp only [selectorOf, BitVec.extractLsb'_toNat, Nat.shiftRight_eq_div_pow]
  omega

theorem argOf_toNat (w : CmdWord) : (argOf w).toNat = w.toNat % 256 := by
  simp [argOf, BitVec.extractLsb'_toNat]

@[simp] theorem selectorOf_commandWord (c : Selector) (a : Byte) : selectorOf (commandWord c a) = c := by
  apply BitVec.eq_of_toNat_eq
  have := a.isLt
  rw [selectorOf_toNat, commandWord_toNat]
  omega

@[simp] theorem argOf_commandWord (c : Selector) (a : Byte) : argOf (commandWord c a) = a := by
  apply BitVec.eq_of_toNat_eq
  have := a.isLt
  rw [argOf_toNat, commandWord_toNat]
  omega

/-- A word is its two fields. -/
theorem commandWord_fields (w : CmdWord) : commandWord (selectorOf w) (argOf w) = w := by
  apply BitVec.eq_of_toNat_eq
  rw [commandWord_toNat, selectorOf_toNat, argOf_toNat]
  omega

/-- A row whose mask is 0x300 tests the selector alone. -/
theorem fits_iff_selector {r : OpcodeRow} (w : CmdWord) (hm : r.mask = 0x300#10)
    (hr : r.word_match.toNat % 256 = 0) : r.fits w = true ↔ selectorOf w = selectorOf r.word_match := by
  have hand : (w &&& 0x300#10).toNat = w.toNat / 256 * 256 := by
    have hw := w.isLt
    have h3 : (w &&& 0x300#10) = (w >>> 8) <<< 8 := by
      ext i hi
      interval_cases i <;> simp
    rw [h3, BitVec.toNat_shiftLeft, BitVec.toNat_ushiftRight, Nat.shiftLeft_eq, Nat.shiftRight_eq_div_pow]
    omega
  have hw := w.isLt
  have hrl := r.word_match.isLt
  simp only [OpcodeRow.fits, hm, beq_iff_eq]
  constructor
  · intro h
    apply BitVec.eq_of_toNat_eq
    rw [selectorOf_toNat, selectorOf_toNat, ← h, hand]
    omega
  · intro h
    have h' := congrArg BitVec.toNat h
    rw [selectorOf_toNat, selectorOf_toNat] at h'
    apply BitVec.eq_of_toNat_eq
    rw [hand]
    omega

end Sys2Proof
end

