-- ==== Sys2Proof/Laws/PerInstr.lean ====
section
/-! SUPPORT. Statements about every command as syntax, one lemma a constructor. -/

namespace Sys2Proof.Laws.EncodedRow

/-- The word of a command belongs to the command's row of the table, and its low byte is the command's operand
(30_encoding.md R71, R72). -/
def Statement (i : Instr) : Prop := i.row.fits (encode i) = true ∧ argOf (encode i) = i.arg

theorem statement_of_row {i : Instr} (hm : i.row.mask = 0x300#10) (hr : i.row.word_match.toNat % 256 = 0)
    (hs : selectorOf i.row.word_match = i.selector) : Statement i :=
  ⟨(fits_iff_selector _ hm hr).2 ((selectorOf_commandWord _ _).trans hs.symm), argOf_commandWord _ _⟩

theorem nop (a : Byte) : Statement (.nop a) :=
  statement_of_row rfl (by decide : rowNop.word_match.toNat % 256 = 0)
    (by decide : selectorOf rowNop.word_match = 0b00#2)
theorem acquire (a : Byte) : Statement (.acquire a) :=
  statement_of_row rfl (by decide : rowAcquire.word_match.toNat % 256 = 0)
    (by decide : selectorOf rowAcquire.word_match = 0b01#2)
theorem setThreshold (a : Byte) : Statement (.setThreshold a) :=
  statement_of_row rfl (by decide : rowSetThreshold.word_match.toNat % 256 = 0)
    (by decide : selectorOf rowSetThreshold.word_match = 0b10#2)
theorem reserved11 (a : Byte) : Statement (.reserved11 a) :=
  statement_of_row rfl (by decide : rowReserved11.word_match.toNat % 256 = 0)
    (by decide : selectorOf rowReserved11.word_match = 0b11#2)

end Sys2Proof.Laws.EncodedRow
end

