-- ==== Sys2Proof/Laws/State.lean ====
section
/-! SUPPORT. One lemma for each field of State under each named update: what it reads as afterwards. -/

namespace Sys2Proof.Machine

variable (s : State)

/-! ### `consumeInputs` -/

@[simp] theorem State.consumeInputs_phase : (s.consumeInputs).phase = s.phase := rfl
@[simp] theorem State.consumeInputs_tcount : (s.consumeInputs).tcount = s.tcount := rfl
@[simp] theorem State.consumeInputs_win : (s.consumeInputs).win = s.win := rfl
@[simp] theorem State.consumeInputs_spin : (s.consumeInputs).spin = s.spin := rfl
@[simp] theorem State.consumeInputs_prev : (s.consumeInputs).prev = s.prev := rfl
@[simp] theorem State.consumeInputs_cfg_thr : (s.consumeInputs).cfg_thr = s.cfg_thr := rfl
@[simp] theorem State.consumeInputs_thr_act : (s.consumeInputs).thr_act = s.thr_act := rfl
@[simp] theorem State.consumeInputs_shift : (s.consumeInputs).shift = s.shift := rfl
@[simp] theorem State.consumeInputs_nbits : (s.consumeInputs).nbits = s.nbits := rfl
@[simp] theorem State.consumeInputs_outcome : (s.consumeInputs).outcome = s.outcome := rfl
@[simp] theorem State.consumeInputs_frame_pub : (s.consumeInputs).frame_pub = s.frame_pub := rfl
@[simp] theorem State.consumeInputs_frame_valid : (s.consumeInputs).frame_valid = s.frame_valid := rfl
@[simp] theorem State.consumeInputs_reading_valid : (s.consumeInputs).reading_valid = s.reading_valid := rfl
@[simp] theorem State.consumeInputs_hum_tenths : (s.consumeInputs).hum_tenths = s.hum_tenths := rfl
@[simp] theorem State.consumeInputs_temp_tenths : (s.consumeInputs).temp_tenths = s.temp_tenths := rfl
@[simp] theorem State.consumeInputs_nbits_out : (s.consumeInputs).nbits_out = s.nbits_out := rfl
@[simp] theorem State.consumeInputs_nwin_out : (s.consumeInputs).nwin_out = s.nwin_out := rfl
@[simp] theorem State.consumeInputs_done : (s.consumeInputs).done = s.done := rfl
@[simp] theorem State.consumeInputs_params : (s.consumeInputs).params = s.params := rfl
@[simp] theorem State.consumeInputs_host_in : (s.consumeInputs).host_in = s.host_in.tail := rfl
@[simp] theorem State.consumeInputs_line_in : (s.consumeInputs).line_in = s.line_in.tail := rfl
@[simp] theorem State.consumeInputs_tick : (s.consumeInputs).tick = s.tick + 1 := rfl

/-! ### `beginStep` -/

@[simp] theorem State.beginStep_phase : (s.beginStep).phase = s.phase := rfl
@[simp] theorem State.beginStep_tcount : (s.beginStep).tcount = s.tcount := rfl
@[simp] theorem State.beginStep_win : (s.beginStep).win = s.win := rfl
@[simp] theorem State.beginStep_spin : (s.beginStep).spin = s.spin := rfl
@[simp] theorem State.beginStep_prev : (s.beginStep).prev = s.prev := rfl
@[simp] theorem State.beginStep_cfg_thr : (s.beginStep).cfg_thr = s.cfg_thr := rfl
@[simp] theorem State.beginStep_thr_act : (s.beginStep).thr_act = s.thr_act := rfl
@[simp] theorem State.beginStep_shift : (s.beginStep).shift = s.shift := rfl
@[simp] theorem State.beginStep_nbits : (s.beginStep).nbits = s.nbits := rfl
@[simp] theorem State.beginStep_outcome : (s.beginStep).outcome = s.outcome := rfl
@[simp] theorem State.beginStep_frame_pub : (s.beginStep).frame_pub = s.frame_pub := rfl
@[simp] theorem State.beginStep_frame_valid : (s.beginStep).frame_valid = s.frame_valid := rfl
@[simp] theorem State.beginStep_reading_valid : (s.beginStep).reading_valid = s.reading_valid := rfl
@[simp] theorem State.beginStep_hum_tenths : (s.beginStep).hum_tenths = s.hum_tenths := rfl
@[simp] theorem State.beginStep_temp_tenths : (s.beginStep).temp_tenths = s.temp_tenths := rfl
@[simp] theorem State.beginStep_nbits_out : (s.beginStep).nbits_out = s.nbits_out := rfl
@[simp] theorem State.beginStep_nwin_out : (s.beginStep).nwin_out = s.nwin_out := rfl
@[simp] theorem State.beginStep_done : (s.beginStep).done = false := rfl
@[simp] theorem State.beginStep_params : (s.beginStep).params = s.params := rfl
@[simp] theorem State.beginStep_host_in : (s.beginStep).host_in = s.host_in.tail := rfl
@[simp] theorem State.beginStep_line_in : (s.beginStep).line_in = s.line_in.tail := rfl
@[simp] theorem State.beginStep_tick : (s.beginStep).tick = s.tick + 1 := rfl

/-! ### `applyReset` -/

@[simp] theorem State.applyReset_phase : (s.applyReset).phase = .idle := rfl
@[simp] theorem State.applyReset_tcount : (s.applyReset).tcount = 0 := rfl
@[simp] theorem State.applyReset_win : (s.applyReset).win = 0#7 := rfl
@[simp] theorem State.applyReset_spin : (s.applyReset).spin = 0#8 := rfl
@[simp] theorem State.applyReset_prev : (s.applyReset).prev = .high := rfl
@[simp] theorem State.applyReset_cfg_thr : (s.applyReset).cfg_thr = s.params.threshold_reset := rfl
@[simp] theorem State.applyReset_thr_act : (s.applyReset).thr_act = s.params.threshold_reset := rfl
@[simp] theorem State.applyReset_shift : (s.applyReset).shift = 0#40 := rfl
@[simp] theorem State.applyReset_nbits : (s.applyReset).nbits = 0#6 := rfl
@[simp] theorem State.applyReset_outcome : (s.applyReset).outcome = .none := rfl
@[simp] theorem State.applyReset_frame_pub : (s.applyReset).frame_pub = 0#40 := rfl
@[simp] theorem State.applyReset_frame_valid : (s.applyReset).frame_valid = false := rfl
@[simp] theorem State.applyReset_reading_valid : (s.applyReset).reading_valid = false := rfl
@[simp] theorem State.applyReset_hum_tenths : (s.applyReset).hum_tenths = 0#12 := rfl
@[simp] theorem State.applyReset_temp_tenths : (s.applyReset).temp_tenths = 0#12 := rfl
@[simp] theorem State.applyReset_nbits_out : (s.applyReset).nbits_out = 0#6 := rfl
@[simp] theorem State.applyReset_nwin_out : (s.applyReset).nwin_out = 0#7 := rfl
@[simp] theorem State.applyReset_done : (s.applyReset).done = false := rfl
@[simp] theorem State.applyReset_params : (s.applyReset).params = s.params := rfl
@[simp] theorem State.applyReset_host_in : (s.applyReset).host_in = s.host_in := rfl
@[simp] theorem State.applyReset_line_in : (s.applyReset).line_in = s.line_in := rfl
@[simp] theorem State.applyReset_tick : (s.applyReset).tick = s.tick := rfl

/-! ### `startAcquisition` -/

@[simp] theorem State.startAcquisition_phase : (s.startAcquisition).phase = .startLow := rfl
@[simp] theorem State.startAcquisition_tcount : (s.startAcquisition).tcount = 0 := rfl
@[simp] theorem State.startAcquisition_win : (s.startAcquisition).win = 0#7 := rfl
@[simp] theorem State.startAcquisition_spin : (s.startAcquisition).spin = 0#8 := rfl
@[simp] theorem State.startAcquisition_prev : (s.startAcquisition).prev = .high := rfl
@[simp] theorem State.startAcquisition_cfg_thr : (s.startAcquisition).cfg_thr = s.cfg_thr := rfl
@[simp] theorem State.startAcquisition_thr_act : (s.startAcquisition).thr_act = s.cfg_thr := rfl
@[simp] theorem State.startAcquisition_shift : (s.startAcquisition).shift = 0#40 := rfl
@[simp] theorem State.startAcquisition_nbits : (s.startAcquisition).nbits = 0#6 := rfl
@[simp] theorem State.startAcquisition_outcome : (s.startAcquisition).outcome = .none := rfl
@[simp] theorem State.startAcquisition_frame_pub : (s.startAcquisition).frame_pub = 0#40 := rfl
@[simp] theorem State.startAcquisition_frame_valid : (s.startAcquisition).frame_valid = false := rfl
@[simp] theorem State.startAcquisition_reading_valid : (s.startAcquisition).reading_valid = false := rfl
@[simp] theorem State.startAcquisition_hum_tenths : (s.startAcquisition).hum_tenths = 0#12 := rfl
@[simp] theorem State.startAcquisition_temp_tenths : (s.startAcquisition).temp_tenths = 0#12 := rfl
@[simp] theorem State.startAcquisition_nbits_out : (s.startAcquisition).nbits_out = 0#6 := rfl
@[simp] theorem State.startAcquisition_nwin_out : (s.startAcquisition).nwin_out = 0#7 := rfl
@[simp] theorem State.startAcquisition_done : (s.startAcquisition).done = s.done := rfl
@[simp] theorem State.startAcquisition_params : (s.startAcquisition).params = s.params := rfl
@[simp] theorem State.startAcquisition_host_in : (s.startAcquisition).host_in = s.host_in := rfl
@[simp] theorem State.startAcquisition_line_in : (s.startAcquisition).line_in = s.line_in := rfl
@[simp] theorem State.startAcquisition_tick : (s.startAcquisition).tick = s.tick := rfl

/-! ### `setCfgThr` -/

@[simp] theorem State.setCfgThr_phase (v : Byte) : (s.setCfgThr v).phase = s.phase := rfl
@[simp] theorem State.setCfgThr_tcount (v : Byte) : (s.setCfgThr v).tcount = s.tcount := rfl
@[simp] theorem State.setCfgThr_win (v : Byte) : (s.setCfgThr v).win = s.win := rfl
@[simp] theorem State.setCfgThr_spin (v : Byte) : (s.setCfgThr v).spin = s.spin := rfl
@[simp] theorem State.setCfgThr_prev (v : Byte) : (s.setCfgThr v).prev = s.prev := rfl
@[simp] theorem State.setCfgThr_cfg_thr (v : Byte) : (s.setCfgThr v).cfg_thr = v := rfl
@[simp] theorem State.setCfgThr_thr_act (v : Byte) : (s.setCfgThr v).thr_act = s.thr_act := rfl
@[simp] theorem State.setCfgThr_shift (v : Byte) : (s.setCfgThr v).shift = s.shift := rfl
@[simp] theorem State.setCfgThr_nbits (v : Byte) : (s.setCfgThr v).nbits = s.nbits := rfl
@[simp] theorem State.setCfgThr_outcome (v : Byte) : (s.setCfgThr v).outcome = s.outcome := rfl
@[simp] theorem State.setCfgThr_frame_pub (v : Byte) : (s.setCfgThr v).frame_pub = s.frame_pub := rfl
@[simp] theorem State.setCfgThr_frame_valid (v : Byte) : (s.setCfgThr v).frame_valid = s.frame_valid := rfl
@[simp] theorem State.setCfgThr_reading_valid (v : Byte) : (s.setCfgThr v).reading_valid = s.reading_valid := rfl
@[simp] theorem State.setCfgThr_hum_tenths (v : Byte) : (s.setCfgThr v).hum_tenths = s.hum_tenths := rfl
@[simp] theorem State.setCfgThr_temp_tenths (v : Byte) : (s.setCfgThr v).temp_tenths = s.temp_tenths := rfl
@[simp] theorem State.setCfgThr_nbits_out (v : Byte) : (s.setCfgThr v).nbits_out = s.nbits_out := rfl
@[simp] theorem State.setCfgThr_nwin_out (v : Byte) : (s.setCfgThr v).nwin_out = s.nwin_out := rfl
@[simp] theorem State.setCfgThr_done (v : Byte) : (s.setCfgThr v).done = s.done := rfl
@[simp] theorem State.setCfgThr_params (v : Byte) : (s.setCfgThr v).params = s.params := rfl
@[simp] theorem State.setCfgThr_host_in (v : Byte) : (s.setCfgThr v).host_in = s.host_in := rfl
@[simp] theorem State.setCfgThr_line_in (v : Byte) : (s.setCfgThr v).line_in = s.line_in := rfl
@[simp] theorem State.setCfgThr_tick (v : Byte) : (s.setCfgThr v).tick = s.tick := rfl

/-! ### `setTcount` -/

@[simp] theorem State.setTcount_phase (n : Nat) : (s.setTcount n).phase = s.phase := rfl
@[simp] theorem State.setTcount_tcount (n : Nat) : (s.setTcount n).tcount = n % 2 ^ s.params.tcw := rfl
@[simp] theorem State.setTcount_win (n : Nat) : (s.setTcount n).win = s.win := rfl
@[simp] theorem State.setTcount_spin (n : Nat) : (s.setTcount n).spin = s.spin := rfl
@[simp] theorem State.setTcount_prev (n : Nat) : (s.setTcount n).prev = s.prev := rfl
@[simp] theorem State.setTcount_cfg_thr (n : Nat) : (s.setTcount n).cfg_thr = s.cfg_thr := rfl
@[simp] theorem State.setTcount_thr_act (n : Nat) : (s.setTcount n).thr_act = s.thr_act := rfl
@[simp] theorem State.setTcount_shift (n : Nat) : (s.setTcount n).shift = s.shift := rfl
@[simp] theorem State.setTcount_nbits (n : Nat) : (s.setTcount n).nbits = s.nbits := rfl
@[simp] theorem State.setTcount_outcome (n : Nat) : (s.setTcount n).outcome = s.outcome := rfl
@[simp] theorem State.setTcount_frame_pub (n : Nat) : (s.setTcount n).frame_pub = s.frame_pub := rfl
@[simp] theorem State.setTcount_frame_valid (n : Nat) : (s.setTcount n).frame_valid = s.frame_valid := rfl
@[simp] theorem State.setTcount_reading_valid (n : Nat) : (s.setTcount n).reading_valid = s.reading_valid := rfl
@[simp] theorem State.setTcount_hum_tenths (n : Nat) : (s.setTcount n).hum_tenths = s.hum_tenths := rfl
@[simp] theorem State.setTcount_temp_tenths (n : Nat) : (s.setTcount n).temp_tenths = s.temp_tenths := rfl
@[simp] theorem State.setTcount_nbits_out (n : Nat) : (s.setTcount n).nbits_out = s.nbits_out := rfl
@[simp] theorem State.setTcount_nwin_out (n : Nat) : (s.setTcount n).nwin_out = s.nwin_out := rfl
@[simp] theorem State.setTcount_done (n : Nat) : (s.setTcount n).done = s.done := rfl
@[simp] theorem State.setTcount_params (n : Nat) : (s.setTcount n).params = s.params := rfl
@[simp] theorem State.setTcount_host_in (n : Nat) : (s.setTcount n).host_in = s.host_in := rfl
@[simp] theorem State.setTcount_line_in (n : Nat) : (s.setTcount n).line_in = s.line_in := rfl
@[simp] theorem State.setTcount_tick (n : Nat) : (s.setTcount n).tick = s.tick := rfl

/-! ### `enterStartHigh` -/

@[simp] theorem State.enterStartHigh_phase : (s.enterStartHigh).phase = .startHigh := rfl
@[simp] theorem State.enterStartHigh_tcount : (s.enterStartHigh).tcount = 0 := rfl
@[simp] theorem State.enterStartHigh_win : (s.enterStartHigh).win = s.win := rfl
@[simp] theorem State.enterStartHigh_spin : (s.enterStartHigh).spin = s.spin := rfl
@[simp] theorem State.enterStartHigh_prev : (s.enterStartHigh).prev = s.prev := rfl
@[simp] theorem State.enterStartHigh_cfg_thr : (s.enterStartHigh).cfg_thr = s.cfg_thr := rfl
@[simp] theorem State.enterStartHigh_thr_act : (s.enterStartHigh).thr_act = s.thr_act := rfl
@[simp] theorem State.enterStartHigh_shift : (s.enterStartHigh).shift = s.shift := rfl
@[simp] theorem State.enterStartHigh_nbits : (s.enterStartHigh).nbits = s.nbits := rfl
@[simp] theorem State.enterStartHigh_outcome : (s.enterStartHigh).outcome = s.outcome := rfl
@[simp] theorem State.enterStartHigh_frame_pub : (s.enterStartHigh).frame_pub = s.frame_pub := rfl
@[simp] theorem State.enterStartHigh_frame_valid : (s.enterStartHigh).frame_valid = s.frame_valid := rfl
@[simp] theorem State.enterStartHigh_reading_valid : (s.enterStartHigh).reading_valid = s.reading_valid := rfl
@[simp] theorem State.enterStartHigh_hum_tenths : (s.enterStartHigh).hum_tenths = s.hum_tenths := rfl
@[simp] theorem State.enterStartHigh_temp_tenths : (s.enterStartHigh).temp_tenths = s.temp_tenths := rfl
@[simp] theorem State.enterStartHigh_nbits_out : (s.enterStartHigh).nbits_out = s.nbits_out := rfl
@[simp] theorem State.enterStartHigh_nwin_out : (s.enterStartHigh).nwin_out = s.nwin_out := rfl
@[simp] theorem State.enterStartHigh_done : (s.enterStartHigh).done = s.done := rfl
@[simp] theorem State.enterStartHigh_params : (s.enterStartHigh).params = s.params := rfl
@[simp] theorem State.enterStartHigh_host_in : (s.enterStartHigh).host_in = s.host_in := rfl
@[simp] theorem State.enterStartHigh_line_in : (s.enterStartHigh).line_in = s.line_in := rfl
@[simp] theorem State.enterStartHigh_tick : (s.enterStartHigh).tick = s.tick := rfl

/-! ### `enterSample` -/

@[simp] theorem State.enterSample_phase : (s.enterSample).phase = .sample := rfl
@[simp] theorem State.enterSample_tcount : (s.enterSample).tcount = 0 := rfl
@[simp] theorem State.enterSample_win : (s.enterSample).win = 0#7 := rfl
@[simp] theorem State.enterSample_spin : (s.enterSample).spin = 0#8 := rfl
@[simp] theorem State.enterSample_prev : (s.enterSample).prev = .high := rfl
@[simp] theorem State.enterSample_cfg_thr : (s.enterSample).cfg_thr = s.cfg_thr := rfl
@[simp] theorem State.enterSample_thr_act : (s.enterSample).thr_act = s.thr_act := rfl
@[simp] theorem State.enterSample_shift : (s.enterSample).shift = s.shift := rfl
@[simp] theorem State.enterSample_nbits : (s.enterSample).nbits = s.nbits := rfl
@[simp] theorem State.enterSample_outcome : (s.enterSample).outcome = s.outcome := rfl
@[simp] theorem State.enterSample_frame_pub : (s.enterSample).frame_pub = s.frame_pub := rfl
@[simp] theorem State.enterSample_frame_valid : (s.enterSample).frame_valid = s.frame_valid := rfl
@[simp] theorem State.enterSample_reading_valid : (s.enterSample).reading_valid = s.reading_valid := rfl
@[simp] theorem State.enterSample_hum_tenths : (s.enterSample).hum_tenths = s.hum_tenths := rfl
@[simp] theorem State.enterSample_temp_tenths : (s.enterSample).temp_tenths = s.temp_tenths := rfl
@[simp] theorem State.enterSample_nbits_out : (s.enterSample).nbits_out = s.nbits_out := rfl
@[simp] theorem State.enterSample_nwin_out : (s.enterSample).nwin_out = s.nwin_out := rfl
@[simp] theorem State.enterSample_done : (s.enterSample).done = s.done := rfl
@[simp] theorem State.enterSample_params : (s.enterSample).params = s.params := rfl
@[simp] theorem State.enterSample_host_in : (s.enterSample).host_in = s.host_in := rfl
@[simp] theorem State.enterSample_line_in : (s.enterSample).line_in = s.line_in := rfl
@[simp] theorem State.enterSample_tick : (s.enterSample).tick = s.tick := rfl

/-! ### `setSpin` -/

@[simp] theorem State.setSpin_phase (n : Nat) : (s.setSpin n).phase = s.phase := rfl
@[simp] theorem State.setSpin_tcount (n : Nat) : (s.setSpin n).tcount = s.tcount := rfl
@[simp] theorem State.setSpin_win (n : Nat) : (s.setSpin n).win = s.win := rfl
@[simp] theorem State.setSpin_spin (n : Nat) : (s.setSpin n).spin = BitVec.ofNat 8 n := rfl
@[simp] theorem State.setSpin_prev (n : Nat) : (s.setSpin n).prev = s.prev := rfl
@[simp] theorem State.setSpin_cfg_thr (n : Nat) : (s.setSpin n).cfg_thr = s.cfg_thr := rfl
@[simp] theorem State.setSpin_thr_act (n : Nat) : (s.setSpin n).thr_act = s.thr_act := rfl
@[simp] theorem State.setSpin_shift (n : Nat) : (s.setSpin n).shift = s.shift := rfl
@[simp] theorem State.setSpin_nbits (n : Nat) : (s.setSpin n).nbits = s.nbits := rfl
@[simp] theorem State.setSpin_outcome (n : Nat) : (s.setSpin n).outcome = s.outcome := rfl
@[simp] theorem State.setSpin_frame_pub (n : Nat) : (s.setSpin n).frame_pub = s.frame_pub := rfl
@[simp] theorem State.setSpin_frame_valid (n : Nat) : (s.setSpin n).frame_valid = s.frame_valid := rfl
@[simp] theorem State.setSpin_reading_valid (n : Nat) : (s.setSpin n).reading_valid = s.reading_valid := rfl
@[simp] theorem State.setSpin_hum_tenths (n : Nat) : (s.setSpin n).hum_tenths = s.hum_tenths := rfl
@[simp] theorem State.setSpin_temp_tenths (n : Nat) : (s.setSpin n).temp_tenths = s.temp_tenths := rfl
@[simp] theorem State.setSpin_nbits_out (n : Nat) : (s.setSpin n).nbits_out = s.nbits_out := rfl
@[simp] theorem State.setSpin_nwin_out (n : Nat) : (s.setSpin n).nwin_out = s.nwin_out := rfl
@[simp] theorem State.setSpin_done (n : Nat) : (s.setSpin n).done = s.done := rfl
@[simp] theorem State.setSpin_params (n : Nat) : (s.setSpin n).params = s.params := rfl
@[simp] theorem State.setSpin_host_in (n : Nat) : (s.setSpin n).host_in = s.host_in := rfl
@[simp] theorem State.setSpin_line_in (n : Nat) : (s.setSpin n).line_in = s.line_in := rfl
@[simp] theorem State.setSpin_tick (n : Nat) : (s.setSpin n).tick = s.tick := rfl

/-! ### `openWindow` -/

@[simp] theorem State.openWindow_phase (w : Nat) (l : Level) : (s.openWindow w l).phase = s.phase := rfl
@[simp] theorem State.openWindow_tcount (w : Nat) (l : Level) : (s.openWindow w l).tcount = s.tcount := rfl
@[simp] theorem State.openWindow_win (w : Nat) (l : Level) : (s.openWindow w l).win = BitVec.ofNat 7 w := rfl
@[simp] theorem State.openWindow_spin (w : Nat) (l : Level) : (s.openWindow w l).spin = 1#8 := rfl
@[simp] theorem State.openWindow_prev (w : Nat) (l : Level) : (s.openWindow w l).prev = l := rfl
@[simp] theorem State.openWindow_cfg_thr (w : Nat) (l : Level) : (s.openWindow w l).cfg_thr = s.cfg_thr := rfl
@[simp] theorem State.openWindow_thr_act (w : Nat) (l : Level) : (s.openWindow w l).thr_act = s.thr_act := rfl
@[simp] theorem State.openWindow_shift (w : Nat) (l : Level) : (s.openWindow w l).shift = s.shift := rfl
@[simp] theorem State.openWindow_nbits (w : Nat) (l : Level) : (s.openWindow w l).nbits = s.nbits := rfl
@[simp] theorem State.openWindow_outcome (w : Nat) (l : Level) : (s.openWindow w l).outcome = s.outcome := rfl
@[simp] theorem State.openWindow_frame_pub (w : Nat) (l : Level) : (s.openWindow w l).frame_pub = s.frame_pub := rfl
@[simp] theorem State.openWindow_frame_valid (w : Nat) (l : Level) : (s.openWindow w l).frame_valid = s.frame_valid := rfl
@[simp] theorem State.openWindow_reading_valid (w : Nat) (l : Level) : (s.openWindow w l).reading_valid = s.reading_valid := rfl
@[simp] theorem State.openWindow_hum_tenths (w : Nat) (l : Level) : (s.openWindow w l).hum_tenths = s.hum_tenths := rfl
@[simp] theorem State.openWindow_temp_tenths (w : Nat) (l : Level) : (s.openWindow w l).temp_tenths = s.temp_tenths := rfl
@[simp] theorem State.openWindow_nbits_out (w : Nat) (l : Level) : (s.openWindow w l).nbits_out = s.nbits_out := rfl
@[simp] theorem State.openWindow_nwin_out (w : Nat) (l : Level) : (s.openWindow w l).nwin_out = s.nwin_out := rfl
@[simp] theorem State.openWindow_done (w : Nat) (l : Level) : (s.openWindow w l).done = s.done := rfl
@[simp] theorem State.openWindow_params (w : Nat) (l : Level) : (s.openWindow w l).params = s.params := rfl
@[simp] theorem State.openWindow_host_in (w : Nat) (l : Level) : (s.openWindow w l).host_in = s.host_in := rfl
@[simp] theorem State.openWindow_line_in (w : Nat) (l : Level) : (s.openWindow w l).line_in = s.line_in := rfl
@[simp] theorem State.openWindow_tick (w : Nat) (l : Level) : (s.openWindow w l).tick = s.tick := rfl

/-! ### `setAssembly` -/

@[simp] theorem State.setAssembly_phase (f : FrameWord) (n : Nat) : (s.setAssembly f n).phase = s.phase := rfl
@[simp] theorem State.setAssembly_tcount (f : FrameWord) (n : Nat) : (s.setAssembly f n).tcount = s.tcount := rfl
@[simp] theorem State.setAssembly_win (f : FrameWord) (n : Nat) : (s.setAssembly f n).win = s.win := rfl
@[simp] theorem State.setAssembly_spin (f : FrameWord) (n : Nat) : (s.setAssembly f n).spin = s.spin := rfl
@[simp] theorem State.setAssembly_prev (f : FrameWord) (n : Nat) : (s.setAssembly f n).prev = s.prev := rfl
@[simp] theorem State.setAssembly_cfg_thr (f : FrameWord) (n : Nat) : (s.setAssembly f n).cfg_thr = s.cfg_thr := rfl
@[simp] theorem State.setAssembly_thr_act (f : FrameWord) (n : Nat) : (s.setAssembly f n).thr_act = s.thr_act := rfl
@[simp] theorem State.setAssembly_shift (f : FrameWord) (n : Nat) : (s.setAssembly f n).shift = f := rfl
@[simp] theorem State.setAssembly_nbits (f : FrameWord) (n : Nat) : (s.setAssembly f n).nbits = BitVec.ofNat 6 n := rfl
@[simp] theorem State.setAssembly_outcome (f : FrameWord) (n : Nat) : (s.setAssembly f n).outcome = s.outcome := rfl
@[simp] theorem State.setAssembly_frame_pub (f : FrameWord) (n : Nat) : (s.setAssembly f n).frame_pub = s.frame_pub := rfl
@[simp] theorem State.setAssembly_frame_valid (f : FrameWord) (n : Nat) : (s.setAssembly f n).frame_valid = s.frame_valid := rfl
@[simp] theorem State.setAssembly_reading_valid (f : FrameWord) (n : Nat) : (s.setAssembly f n).reading_valid = s.reading_valid := rfl
@[simp] theorem State.setAssembly_hum_tenths (f : FrameWord) (n : Nat) : (s.setAssembly f n).hum_tenths = s.hum_tenths := rfl
@[simp] theorem State.setAssembly_temp_tenths (f : FrameWord) (n : Nat) : (s.setAssembly f n).temp_tenths = s.temp_tenths := rfl
@[simp] theorem State.setAssembly_nbits_out (f : FrameWord) (n : Nat) : (s.setAssembly f n).nbits_out = s.nbits_out := rfl
@[simp] theorem State.setAssembly_nwin_out (f : FrameWord) (n : Nat) : (s.setAssembly f n).nwin_out = s.nwin_out := rfl
@[simp] theorem State.setAssembly_done (f : FrameWord) (n : Nat) : (s.setAssembly f n).done = s.done := rfl
@[simp] theorem State.setAssembly_params (f : FrameWord) (n : Nat) : (s.setAssembly f n).params = s.params := rfl
@[simp] theorem State.setAssembly_host_in (f : FrameWord) (n : Nat) : (s.setAssembly f n).host_in = s.host_in := rfl
@[simp] theorem State.setAssembly_line_in (f : FrameWord) (n : Nat) : (s.setAssembly f n).line_in = s.line_in := rfl
@[simp] theorem State.setAssembly_tick (f : FrameWord) (n : Nat) : (s.setAssembly f n).tick = s.tick := rfl

/-! ### `publishDiagnostics` -/

@[simp] theorem State.publishDiagnostics_phase (n W : Nat) : (s.publishDiagnostics n W).phase = s.phase := rfl
@[simp] theorem State.publishDiagnostics_tcount (n W : Nat) : (s.publishDiagnostics n W).tcount = s.tcount := rfl
@[simp] theorem State.publishDiagnostics_win (n W : Nat) : (s.publishDiagnostics n W).win = s.win := rfl
@[simp] theorem State.publishDiagnostics_spin (n W : Nat) : (s.publishDiagnostics n W).spin = s.spin := rfl
@[simp] theorem State.publishDiagnostics_prev (n W : Nat) : (s.publishDiagnostics n W).prev = s.prev := rfl
@[simp] theorem State.publishDiagnostics_cfg_thr (n W : Nat) : (s.publishDiagnostics n W).cfg_thr = s.cfg_thr := rfl
@[simp] theorem State.publishDiagnostics_thr_act (n W : Nat) : (s.publishDiagnostics n W).thr_act = s.thr_act := rfl
@[simp] theorem State.publishDiagnostics_shift (n W : Nat) : (s.publishDiagnostics n W).shift = s.shift := rfl
@[simp] theorem State.publishDiagnostics_nbits (n W : Nat) : (s.publishDiagnostics n W).nbits = s.nbits := rfl
@[simp] theorem State.publishDiagnostics_outcome (n W : Nat) : (s.publishDiagnostics n W).outcome = s.outcome := rfl
@[simp] theorem State.publishDiagnostics_frame_pub (n W : Nat) : (s.publishDiagnostics n W).frame_pub = s.frame_pub := rfl
@[simp] theorem State.publishDiagnostics_frame_valid (n W : Nat) : (s.publishDiagnostics n W).frame_valid = s.frame_valid := rfl
@[simp] theorem State.publishDiagnostics_reading_valid (n W : Nat) : (s.publishDiagnostics n W).reading_valid = s.reading_valid := rfl
@[simp] theorem State.publishDiagnostics_hum_tenths (n W : Nat) : (s.publishDiagnostics n W).hum_tenths = s.hum_tenths := rfl
@[simp] theorem State.publishDiagnostics_temp_tenths (n W : Nat) : (s.publishDiagnostics n W).temp_tenths = s.temp_tenths := rfl
@[simp] theorem State.publishDiagnostics_nbits_out (n W : Nat) : (s.publishDiagnostics n W).nbits_out = BitVec.ofNat 6 n := rfl
@[simp] theorem State.publishDiagnostics_nwin_out (n W : Nat) : (s.publishDiagnostics n W).nwin_out = BitVec.ofNat 7 W := rfl
@[simp] theorem State.publishDiagnostics_done (n W : Nat) : (s.publishDiagnostics n W).done = s.done := rfl
@[simp] theorem State.publishDiagnostics_params (n W : Nat) : (s.publishDiagnostics n W).params = s.params := rfl
@[simp] theorem State.publishDiagnostics_host_in (n W : Nat) : (s.publishDiagnostics n W).host_in = s.host_in := rfl
@[simp] theorem State.publishDiagnostics_line_in (n W : Nat) : (s.publishDiagnostics n W).line_in = s.line_in := rfl
@[simp] theorem State.publishDiagnostics_tick (n W : Nat) : (s.publishDiagnostics n W).tick = s.tick := rfl

/-! ### `publishFrame` -/

@[simp] theorem State.publishFrame_phase (f : FrameWord) : (s.publishFrame f).phase = s.phase := rfl
@[simp] theorem State.publishFrame_tcount (f : FrameWord) : (s.publishFrame f).tcount = s.tcount := rfl
@[simp] theorem State.publishFrame_win (f : FrameWord) : (s.publishFrame f).win = s.win := rfl
@[simp] theorem State.publishFrame_spin (f : FrameWord) : (s.publishFrame f).spin = s.spin := rfl
@[simp] theorem State.publishFrame_prev (f : FrameWord) : (s.publishFrame f).prev = s.prev := rfl
@[simp] theorem State.publishFrame_cfg_thr (f : FrameWord) : (s.publishFrame f).cfg_thr = s.cfg_thr := rfl
@[simp] theorem State.publishFrame_thr_act (f : FrameWord) : (s.publishFrame f).thr_act = s.thr_act := rfl
@[simp] theorem State.publishFrame_shift (f : FrameWord) : (s.publishFrame f).shift = s.shift := rfl
@[simp] theorem State.publishFrame_nbits (f : FrameWord) : (s.publishFrame f).nbits = s.nbits := rfl
@[simp] theorem State.publishFrame_outcome (f : FrameWord) : (s.publishFrame f).outcome = s.outcome := rfl
@[simp] theorem State.publishFrame_frame_pub (f : FrameWord) : (s.publishFrame f).frame_pub = f := rfl
@[simp] theorem State.publishFrame_frame_valid (f : FrameWord) : (s.publishFrame f).frame_valid = true := rfl
@[simp] theorem State.publishFrame_reading_valid (f : FrameWord) : (s.publishFrame f).reading_valid = s.reading_valid := rfl
@[simp] theorem State.publishFrame_hum_tenths (f : FrameWord) : (s.publishFrame f).hum_tenths = s.hum_tenths := rfl
@[simp] theorem State.publishFrame_temp_tenths (f : FrameWord) : (s.publishFrame f).temp_tenths = s.temp_tenths := rfl
@[simp] theorem State.publishFrame_nbits_out (f : FrameWord) : (s.publishFrame f).nbits_out = s.nbits_out := rfl
@[simp] theorem State.publishFrame_nwin_out (f : FrameWord) : (s.publishFrame f).nwin_out = s.nwin_out := rfl
@[simp] theorem State.publishFrame_done (f : FrameWord) : (s.publishFrame f).done = s.done := rfl
@[simp] theorem State.publishFrame_params (f : FrameWord) : (s.publishFrame f).params = s.params := rfl
@[simp] theorem State.publishFrame_host_in (f : FrameWord) : (s.publishFrame f).host_in = s.host_in := rfl
@[simp] theorem State.publishFrame_line_in (f : FrameWord) : (s.publishFrame f).line_in = s.line_in := rfl
@[simp] theorem State.publishFrame_tick (f : FrameWord) : (s.publishFrame f).tick = s.tick := rfl

/-! ### `setOutcome` -/

@[simp] theorem State.setOutcome_phase (o : DecodeOutcome) : (s.setOutcome o).phase = s.phase := rfl
@[simp] theorem State.setOutcome_tcount (o : DecodeOutcome) : (s.setOutcome o).tcount = s.tcount := rfl
@[simp] theorem State.setOutcome_win (o : DecodeOutcome) : (s.setOutcome o).win = s.win := rfl
@[simp] theorem State.setOutcome_spin (o : DecodeOutcome) : (s.setOutcome o).spin = s.spin := rfl
@[simp] theorem State.setOutcome_prev (o : DecodeOutcome) : (s.setOutcome o).prev = s.prev := rfl
@[simp] theorem State.setOutcome_cfg_thr (o : DecodeOutcome) : (s.setOutcome o).cfg_thr = s.cfg_thr := rfl
@[simp] theorem State.setOutcome_thr_act (o : DecodeOutcome) : (s.setOutcome o).thr_act = s.thr_act := rfl
@[simp] theorem State.setOutcome_shift (o : DecodeOutcome) : (s.setOutcome o).shift = s.shift := rfl
@[simp] theorem State.setOutcome_nbits (o : DecodeOutcome) : (s.setOutcome o).nbits = s.nbits := rfl
@[simp] theorem State.setOutcome_outcome (o : DecodeOutcome) : (s.setOutcome o).outcome = o := rfl
@[simp] theorem State.setOutcome_frame_pub (o : DecodeOutcome) : (s.setOutcome o).frame_pub = s.frame_pub := rfl
@[simp] theorem State.setOutcome_frame_valid (o : DecodeOutcome) : (s.setOutcome o).frame_valid = s.frame_valid := rfl
@[simp] theorem State.setOutcome_reading_valid (o : DecodeOutcome) : (s.setOutcome o).reading_valid = s.reading_valid := rfl
@[simp] theorem State.setOutcome_hum_tenths (o : DecodeOutcome) : (s.setOutcome o).hum_tenths = s.hum_tenths := rfl
@[simp] theorem State.setOutcome_temp_tenths (o : DecodeOutcome) : (s.setOutcome o).temp_tenths = s.temp_tenths := rfl
@[simp] theorem State.setOutcome_nbits_out (o : DecodeOutcome) : (s.setOutcome o).nbits_out = s.nbits_out := rfl
@[simp] theorem State.setOutcome_nwin_out (o : DecodeOutcome) : (s.setOutcome o).nwin_out = s.nwin_out := rfl
@[simp] theorem State.setOutcome_done (o : DecodeOutcome) : (s.setOutcome o).done = s.done := rfl
@[simp] theorem State.setOutcome_params (o : DecodeOutcome) : (s.setOutcome o).params = s.params := rfl
@[simp] theorem State.setOutcome_host_in (o : DecodeOutcome) : (s.setOutcome o).host_in = s.host_in := rfl
@[simp] theorem State.setOutcome_line_in (o : DecodeOutcome) : (s.setOutcome o).line_in = s.line_in := rfl
@[simp] theorem State.setOutcome_tick (o : DecodeOutcome) : (s.setOutcome o).tick = s.tick := rfl

/-! ### `publishReading` -/

@[simp] theorem State.publishReading_phase (f : FrameWord) : (s.publishReading f).phase = s.phase := rfl
@[simp] theorem State.publishReading_tcount (f : FrameWord) : (s.publishReading f).tcount = s.tcount := rfl
@[simp] theorem State.publishReading_win (f : FrameWord) : (s.publishReading f).win = s.win := rfl
@[simp] theorem State.publishReading_spin (f : FrameWord) : (s.publishReading f).spin = s.spin := rfl
@[simp] theorem State.publishReading_prev (f : FrameWord) : (s.publishReading f).prev = s.prev := rfl
@[simp] theorem State.publishReading_cfg_thr (f : FrameWord) : (s.publishReading f).cfg_thr = s.cfg_thr := rfl
@[simp] theorem State.publishReading_thr_act (f : FrameWord) : (s.publishReading f).thr_act = s.thr_act := rfl
@[simp] theorem State.publishReading_shift (f : FrameWord) : (s.publishReading f).shift = s.shift := rfl
@[simp] theorem State.publishReading_nbits (f : FrameWord) : (s.publishReading f).nbits = s.nbits := rfl
@[simp] theorem State.publishReading_outcome (f : FrameWord) : (s.publishReading f).outcome = s.outcome := rfl
@[simp] theorem State.publishReading_frame_pub (f : FrameWord) : (s.publishReading f).frame_pub = s.frame_pub := rfl
@[simp] theorem State.publishReading_frame_valid (f : FrameWord) : (s.publishReading f).frame_valid = s.frame_valid := rfl
@[simp] theorem State.publishReading_reading_valid (f : FrameWord) : (s.publishReading f).reading_valid = true := rfl
@[simp] theorem State.publishReading_hum_tenths (f : FrameWord) : (s.publishReading f).hum_tenths = tenthsOf (byte0 f) (byte1 f) := rfl
@[simp] theorem State.publishReading_temp_tenths (f : FrameWord) : (s.publishReading f).temp_tenths = tenthsOf (byte2 f) (byte3 f) := rfl
@[simp] theorem State.publishReading_nbits_out (f : FrameWord) : (s.publishReading f).nbits_out = s.nbits_out := rfl
@[simp] theorem State.publishReading_nwin_out (f : FrameWord) : (s.publishReading f).nwin_out = s.nwin_out := rfl
@[simp] theorem State.publishReading_done (f : FrameWord) : (s.publishReading f).done = s.done := rfl
@[simp] theorem State.publishReading_params (f : FrameWord) : (s.publishReading f).params = s.params := rfl
@[simp] theorem State.publishReading_host_in (f : FrameWord) : (s.publishReading f).host_in = s.host_in := rfl
@[simp] theorem State.publishReading_line_in (f : FrameWord) : (s.publishReading f).line_in = s.line_in := rfl
@[simp] theorem State.publishReading_tick (f : FrameWord) : (s.publishReading f).tick = s.tick := rfl

/-! ### `complete` -/

@[simp] theorem State.complete_phase : (s.complete).phase = .idle := rfl
@[simp] theorem State.complete_tcount : (s.complete).tcount = s.tcount := rfl
@[simp] theorem State.complete_win : (s.complete).win = s.win := rfl
@[simp] theorem State.complete_spin : (s.complete).spin = s.spin := rfl
@[simp] theorem State.complete_prev : (s.complete).prev = s.prev := rfl
@[simp] theorem State.complete_cfg_thr : (s.complete).cfg_thr = s.cfg_thr := rfl
@[simp] theorem State.complete_thr_act : (s.complete).thr_act = s.thr_act := rfl
@[simp] theorem State.complete_shift : (s.complete).shift = s.shift := rfl
@[simp] theorem State.complete_nbits : (s.complete).nbits = s.nbits := rfl
@[simp] theorem State.complete_outcome : (s.complete).outcome = s.outcome := rfl
@[simp] theorem State.complete_frame_pub : (s.complete).frame_pub = s.frame_pub := rfl
@[simp] theorem State.complete_frame_valid : (s.complete).frame_valid = s.frame_valid := rfl
@[simp] theorem State.complete_reading_valid : (s.complete).reading_valid = s.reading_valid := rfl
@[simp] theorem State.complete_hum_tenths : (s.complete).hum_tenths = s.hum_tenths := rfl
@[simp] theorem State.complete_temp_tenths : (s.complete).temp_tenths = s.temp_tenths := rfl
@[simp] theorem State.complete_nbits_out : (s.complete).nbits_out = s.nbits_out := rfl
@[simp] theorem State.complete_nwin_out : (s.complete).nwin_out = s.nwin_out := rfl
@[simp] theorem State.complete_done : (s.complete).done = true := rfl
@[simp] theorem State.complete_params : (s.complete).params = s.params := rfl
@[simp] theorem State.complete_host_in : (s.complete).host_in = s.host_in := rfl
@[simp] theorem State.complete_line_in : (s.complete).line_in = s.line_in := rfl
@[simp] theorem State.complete_tick : (s.complete).tick = s.tick := rfl

end Sys2Proof.Machine
end

