-- ==== Sys2Proof/Laws/Validator.lean ====
section
/-! SUPPORT. What an evaluation does, once: every field of its post-state (44_checksum_validator.md R180 to R191). -/

namespace Sys2Proof.Machine

/-- Everything `evaluate` writes, in one record: diagnostics and completion always, the frame when it is full, the reading
on success, and the outcome of the table of R191. -/
theorem evaluate_eq (n : Nat) (f : FrameWord) (W : Nat) (post : State) :
    evaluate n f W post =
      { post with
        phase := .idle
        done := true
        nbits_out := BitVec.ofNat 6 n
        nwin_out := BitVec.ofNat 7 W
        outcome := outcomeOf post.params n f W
        frame_pub := if n < frameBits then post.frame_pub else f
        frame_valid := if n < frameBits then post.frame_valid else true
        reading_valid := if outcomeOf post.params n f W = .success then true else post.reading_valid
        hum_tenths := if outcomeOf post.params n f W = .success then tenthsOf (byte0 f) (byte1 f) else post.hum_tenths
        temp_tenths := if outcomeOf post.params n f W = .success then tenthsOf (byte2 f) (byte3 f) else post.temp_tenths } := by
  by_cases hn : n < frameBits
  · by_cases hW : W < post.params.ack_windows + frameBits <;>
      simp [evaluate, incomplete, outcomeOf, hn, hW, State.complete, State.setOutcome, State.publishDiagnostics]
  · by_cases hc : checksum f = (byte4 f).toNat
    · by_cases hz : byte0 f = 0#8 ∧ byte2 f = 0#8 <;>
        simp [evaluate, validate, outcomeOf, hn, hc, hz, State.complete, State.setOutcome, State.publishDiagnostics,
          State.publishFrame, State.publishReading]
    · simp [evaluate, validate, outcomeOf, hn, hc, State.complete, State.setOutcome, State.publishDiagnostics,
        State.publishFrame]

variable (n : Nat) (f : FrameWord) (W : Nat) (post : State)

@[simp] theorem evaluate_phase : (evaluate n f W post).phase = .idle := by rw [evaluate_eq]
@[simp] theorem evaluate_done : (evaluate n f W post).done = true := by rw [evaluate_eq]
@[simp] theorem evaluate_outcome : (evaluate n f W post).outcome = outcomeOf post.params n f W := by rw [evaluate_eq]
@[simp] theorem evaluate_nbits_out : (evaluate n f W post).nbits_out = BitVec.ofNat 6 n := by rw [evaluate_eq]
@[simp] theorem evaluate_nwin_out : (evaluate n f W post).nwin_out = BitVec.ofNat 7 W := by rw [evaluate_eq]
@[simp] theorem evaluate_tcount : (evaluate n f W post).tcount = post.tcount := by rw [evaluate_eq]
@[simp] theorem evaluate_win : (evaluate n f W post).win = post.win := by rw [evaluate_eq]
@[simp] theorem evaluate_spin : (evaluate n f W post).spin = post.spin := by rw [evaluate_eq]
@[simp] theorem evaluate_prev : (evaluate n f W post).prev = post.prev := by rw [evaluate_eq]
@[simp] theorem evaluate_cfg_thr : (evaluate n f W post).cfg_thr = post.cfg_thr := by rw [evaluate_eq]
@[simp] theorem evaluate_thr_act : (evaluate n f W post).thr_act = post.thr_act := by rw [evaluate_eq]
@[simp] theorem evaluate_shift : (evaluate n f W post).shift = post.shift := by rw [evaluate_eq]
@[simp] theorem evaluate_nbits : (evaluate n f W post).nbits = post.nbits := by rw [evaluate_eq]
@[simp] theorem evaluate_params : (evaluate n f W post).params = post.params := by rw [evaluate_eq]
@[simp] theorem evaluate_host_in : (evaluate n f W post).host_in = post.host_in := by rw [evaluate_eq]
@[simp] theorem evaluate_line_in : (evaluate n f W post).line_in = post.line_in := by rw [evaluate_eq]
@[simp] theorem evaluate_tick : (evaluate n f W post).tick = post.tick := by rw [evaluate_eq]

/-- A frame of fewer than 40 bits never succeeds (44_checksum_validator.md R181). -/
theorem outcomeOf_incomplete {p : Params} {n : Nat} {f : FrameWord} {W : Nat} (h : n < frameBits) :
    outcomeOf p n f W = if W < p.ack_windows + frameBits then .insufficientBits else .timeout := by
  simp only [outcomeOf, if_pos h]

/-- Every evaluation gives an outcome: NONE is never among them (30_encoding.md R77). -/
theorem outcomeOf_ne_none (p : Params) : outcomeOf p n f W ≠ .none := by
  unfold outcomeOf; split_ifs <;> decide

end Sys2Proof.Machine
end

