-- ==== Sys2Proof/Laws/Phase.lean ====
section
/-! SUPPORT. What the phase part of a step can do (10_state.md R39): its cases, and the fields it leaves alone. -/

namespace Sys2Proof.Machine

variable (S : State) (line : Level) (post : State)

theorem phaseAction_idle {S : State} (h : S.phase = .idle) : phaseAction S line post = post := by
  simp [phaseAction, h]

theorem phaseAction_startLow {S : State} (h : S.phase = .startLow) :
    phaseAction S line post = startLowStep S post := by simp [phaseAction, h]

theorem phaseAction_startHigh {S : State} (h : S.phase = .startHigh) :
    phaseAction S line post = startHighStep S post := by simp [phaseAction, h]

theorem phaseAction_sample {S : State} (h : S.phase = .sample) :
    phaseAction S line post = sampleStep S line post := by simp [phaseAction, h]

/-- All a phase action can be. -/
theorem phaseAction_cases :
    (S.phase = .idle ∧ phaseAction S line post = post) ∨
    (S.phase = .startLow ∧ S.tcount + 1 = S.params.start_low_ticks ∧
      phaseAction S line post = post.enterStartHigh) ∨
    (S.phase = .startLow ∧ S.tcount + 1 ≠ S.params.start_low_ticks ∧
      phaseAction S line post = post.setTcount (S.tcount + 1)) ∨
    (S.phase = .startHigh ∧ S.tcount + 1 = S.params.start_high_ticks ∧
      phaseAction S line post = post.enterSample) ∨
    (S.phase = .startHigh ∧ S.tcount + 1 ≠ S.params.start_high_ticks ∧
      phaseAction S line post = post.setTcount (S.tcount + 1)) ∨
    (S.phase = .sample ∧ Aborts S line ∧
      phaseAction S line post = evaluate S.nbits.toNat S.shift S.win.toNat post) ∨
    (S.phase = .sample ∧ line = S.prev ∧ S.spin.toNat + 1 ≠ S.params.max_spin ∧
      phaseAction S line post = post.setSpin (S.spin.toNat + 1)) ∨
    (S.phase = .sample ∧ EndsNormally S line ∧
      phaseAction S line post =
        evaluate (flipAssembly S).2 (flipAssembly S).1 (S.win.toNat + 1) (flipWrites S line post)) ∨
    (S.phase = .sample ∧ line ≠ S.prev ∧ S.win.toNat + 1 ≠ S.params.max_windows ∧
      phaseAction S line post = flipWrites S line post) := by
  cases h : S.phase with
  | idle => simp [phaseAction, h]
  | startLow =>
    by_cases ht : S.tcount + 1 = S.params.start_low_ticks <;> simp [phaseAction, h, startLowStep, ht]
  | startHigh =>
    by_cases ht : S.tcount + 1 = S.params.start_high_ticks <;> simp [phaseAction, h, startHighStep, ht]
  | sample =>
    by_cases hl : line = S.prev
    · by_cases hs : S.spin.toNat + 1 = S.params.max_spin <;>
        simp [phaseAction, h, sampleStep, hl, equalSample, hs, Aborts, EndsNormally]
    · by_cases hw : S.win.toNat + 1 = S.params.max_windows <;>
        simp [phaseAction, h, sampleStep, hl, flipSample, hw, Aborts, EndsNormally]

@[simp] theorem flipWrites_params : (flipWrites S line post).params = post.params := rfl
@[simp] theorem flipWrites_cfg_thr : (flipWrites S line post).cfg_thr = post.cfg_thr := rfl
@[simp] theorem flipWrites_thr_act : (flipWrites S line post).thr_act = post.thr_act := rfl
@[simp] theorem flipWrites_phase : (flipWrites S line post).phase = post.phase := rfl
@[simp] theorem flipWrites_done : (flipWrites S line post).done = post.done := rfl
@[simp] theorem flipWrites_win : (flipWrites S line post).win = BitVec.ofNat 7 (S.win.toNat + 1) := rfl
@[simp] theorem flipWrites_spin : (flipWrites S line post).spin = 1#8 := rfl
@[simp] theorem flipWrites_prev : (flipWrites S line post).prev = line := rfl
@[simp] theorem flipWrites_shift : (flipWrites S line post).shift = (flipAssembly S).1 := rfl
@[simp] theorem flipWrites_nbits : (flipWrites S line post).nbits = BitVec.ofNat 6 (flipAssembly S).2 := rfl
@[simp] theorem flipWrites_tcount : (flipWrites S line post).tcount = post.tcount := rfl
@[simp] theorem flipWrites_host_in : (flipWrites S line post).host_in = post.host_in := rfl
@[simp] theorem flipWrites_line_in : (flipWrites S line post).line_in = post.line_in := rfl
@[simp] theorem flipWrites_tick : (flipWrites S line post).tick = post.tick := rfl

@[simp] theorem phaseAction_params : (phaseAction S line post).params = post.params := by
  obtain ⟨_, h⟩ | ⟨_, _, h⟩ | ⟨_, _, h⟩ | ⟨_, _, h⟩ | ⟨_, _, h⟩ | ⟨_, _, h⟩ | ⟨_, _, _, h⟩ | ⟨_, _, h⟩ | ⟨_, _, _, h⟩ :=
    phaseAction_cases S line post <;> simp [h]
@[simp] theorem phaseAction_cfg_thr : (phaseAction S line post).cfg_thr = post.cfg_thr := by
  obtain ⟨_, h⟩ | ⟨_, _, h⟩ | ⟨_, _, h⟩ | ⟨_, _, h⟩ | ⟨_, _, h⟩ | ⟨_, _, h⟩ | ⟨_, _, _, h⟩ | ⟨_, _, h⟩ | ⟨_, _, _, h⟩ :=
    phaseAction_cases S line post <;> simp [h]
@[simp] theorem phaseAction_thr_act : (phaseAction S line post).thr_act = post.thr_act := by
  obtain ⟨_, h⟩ | ⟨_, _, h⟩ | ⟨_, _, h⟩ | ⟨_, _, h⟩ | ⟨_, _, h⟩ | ⟨_, _, h⟩ | ⟨_, _, _, h⟩ | ⟨_, _, h⟩ | ⟨_, _, _, h⟩ :=
    phaseAction_cases S line post <;> simp [h]
@[simp] theorem phaseAction_host_in : (phaseAction S line post).host_in = post.host_in := by
  obtain ⟨_, h⟩ | ⟨_, _, h⟩ | ⟨_, _, h⟩ | ⟨_, _, h⟩ | ⟨_, _, h⟩ | ⟨_, _, h⟩ | ⟨_, _, _, h⟩ | ⟨_, _, h⟩ | ⟨_, _, _, h⟩ :=
    phaseAction_cases S line post <;> simp [h]
@[simp] theorem phaseAction_line_in : (phaseAction S line post).line_in = post.line_in := by
  obtain ⟨_, h⟩ | ⟨_, _, h⟩ | ⟨_, _, h⟩ | ⟨_, _, h⟩ | ⟨_, _, h⟩ | ⟨_, _, h⟩ | ⟨_, _, _, h⟩ | ⟨_, _, h⟩ | ⟨_, _, _, h⟩ :=
    phaseAction_cases S line post <;> simp [h]
@[simp] theorem phaseAction_tick : (phaseAction S line post).tick = post.tick := by
  obtain ⟨_, h⟩ | ⟨_, _, h⟩ | ⟨_, _, h⟩ | ⟨_, _, h⟩ | ⟨_, _, h⟩ | ⟨_, _, h⟩ | ⟨_, _, _, h⟩ | ⟨_, _, h⟩ | ⟨_, _, _, h⟩ :=
    phaseAction_cases S line post <;> simp [h]

end Sys2Proof.Machine
end

