-- ==== Sys2Proof/Laws/Step.lean ====
section
/-! SUPPORT. What a command can do and what a step can do, once (10_state.md R39). -/

namespace Sys2Proof.Machine

/-- The writes of a command, as a function: every command answers a next state (60_exceptions.md R220). -/
def commandWrites (i : Instr) (s : State) : State :=
  match i with
  | .nop _ => s
  | .acquire _ => if s.phase = .idle then s.startAcquisition else s
  | .setThreshold imm8 => s.setCfgThr imm8
  | .reserved11 _ => s

theorem exec_eq (i : Instr) (s : State) : exec i s = .next (commandWrites i s) := by
  cases i with
  | nop => rfl
  | acquire a => simp only [exec, execAcquire, commandWrites]; split <;> rfl
  | setThreshold => rfl
  | reserved11 => rfl

/-- In a busy phase a command can write `cfg_thr` only (10_state.md R39). -/
theorem commandWrites_busy {i : Instr} {s : State} (h : s.phase ≠ .idle) :
    commandWrites i s = s.setCfgThr (commandWrites i s).cfg_thr := by
  cases i <;> simp [commandWrites, h] <;> rfl

@[simp] theorem commandWrites_params (i : Instr) (s : State) : (commandWrites i s).params = s.params := by
  cases i <;> simp [commandWrites]; split <;> simp
@[simp] theorem commandWrites_host_in (i : Instr) (s : State) : (commandWrites i s).host_in = s.host_in := by
  cases i <;> simp [commandWrites]; split <;> simp
@[simp] theorem commandWrites_line_in (i : Instr) (s : State) : (commandWrites i s).line_in = s.line_in := by
  cases i <;> simp [commandWrites]; split <;> simp
@[simp] theorem commandWrites_tick (i : Instr) (s : State) : (commandWrites i s).tick = s.tick := by
  cases i <;> simp [commandWrites]; split <;> simp
@[simp] theorem commandWrites_done (i : Instr) (s : State) : (commandWrites i s).done = s.done := by
  cases i <;> simp [commandWrites]; split <;> simp

/-- The post-state of a step that runs a command. -/
def stepWrites (S : State) : State :=
  phaseAction S (currentLine S) (commandWrites (currentCommand S) S.beginStep)

theorem step_runs {S : State} (h : RunsCommand S) : step S = .next (stepWrites S) := by
  simp [step, h.1, h.2, exec_eq, afterCommand, stepWrites]

theorem step_resets {S : State} (h : IsResetStep S) : step S = .next (resetStep S) := by
  simp [step, h.1, h.2]

theorem step_illegal {S : State} (h : ¬ S.params.Legal) : step S = .refused .illegalElaboration := by
  simp only [step, if_neg h]

/-- All a step that answers a next state can be. -/
theorem step_next_cases {S t : State} (h : step S = .next t) :
    (IsResetStep S ∧ t = resetStep S) ∨ (RunsCommand S ∧ t = stepWrites S) := by
  by_cases hl : S.params.Legal
  · cases hr : (currentHost S).rst with
    | true => rw [step_resets ⟨hl, hr⟩] at h; exact .inl ⟨⟨hl, hr⟩, by cases h; rfl⟩
    | false => rw [step_runs ⟨hl, hr⟩] at h; exact .inr ⟨⟨hl, hr⟩, by cases h; rfl⟩
  · rw [step_illegal hl] at h; cases h

@[simp] theorem stepWrites_params (S : State) : (stepWrites S).params = S.params := by simp [stepWrites]
@[simp] theorem stepWrites_host_in (S : State) : (stepWrites S).host_in = S.host_in.tail := by simp [stepWrites]
@[simp] theorem stepWrites_line_in (S : State) : (stepWrites S).line_in = S.line_in.tail := by simp [stepWrites]
@[simp] theorem stepWrites_tick (S : State) : (stepWrites S).tick = S.tick + 1 := by simp [stepWrites]

/-- In a busy phase the step is the phase action, but for `cfg_thr` (10_state.md R39). -/
theorem stepWrites_busy {S : State} (h : S.phase ≠ .idle) :
    stepWrites S = phaseAction S (currentLine S) (S.beginStep.setCfgThr (stepWrites S).cfg_thr) := by
  have hc : (stepWrites S).cfg_thr = (commandWrites (currentCommand S) S.beginStep).cfg_thr := by simp [stepWrites]
  rw [hc, ← commandWrites_busy (by simpa using h)]; rfl

/-- Steps compose. -/
theorem runSteps_succ (k : Nat) (S : State) :
    runSteps (k + 1) S =
      match step S with
      | .next t => runSteps k t
      | .fault e => .fault e
      | .refused e => .refused e := rfl

theorem runSteps_step {k : Nat} {S t : State} (h : step S = .next t) : runSteps (k + 1) S = runSteps k t := by
  rw [runSteps_succ, h]

theorem runSteps_add {j k : Nat} {S t : State} (h : runSteps j S = .next t) :
    runSteps (j + k) S = runSteps k t := by
  induction j generalizing S with
  | zero => cases h; simp
  | succ j ih =>
    rw [Nat.succ_add, runSteps_succ]
    rw [runSteps_succ] at h
    cases hs : step S with
    | next u => rw [hs] at h; exact ih h
    | fault e => rw [hs] at h; cases h
    | refused e => rw [hs] at h; cases h

end Sys2Proof.Machine
end

