-- ==== Sys2Proof/Laws/Run.lean ====
section
/-! SUPPORT. What the commands write, case by case, and runs of several steps. -/

namespace Sys2Proof.Machine

/-- All a command can write. -/
theorem commandWrites_cases (i : Instr) (s : State) :
    commandWrites i s = s ∨ (∃ v, i = .setThreshold v ∧ commandWrites i s = s.setCfgThr v) ∨
    (∃ a, i = .acquire a ∧ s.phase = .idle ∧ commandWrites i s = s.startAcquisition) := by
  cases i with
  | nop => exact .inl rfl
  | reserved11 => exact .inl rfl
  | setThreshold v => exact .inr (.inl ⟨v, rfl, rfl⟩)
  | acquire a =>
    by_cases h : s.phase = .idle
    · exact .inr (.inr ⟨a, rfl, h, by simp [commandWrites, h]⟩)
    · exact .inl (by simp [commandWrites, h])

theorem presentsAcquire_iff {S : State} : presentsAcquire S = true ↔ ∃ a, currentCommand S = .acquire a := by
  unfold presentsAcquire
  cases currentCommand S <;> simp

/-- The step that accepts an ACQUIRE (40_host_commands.md R101). -/
theorem stepWrites_accepts {S : State} (h : AcceptsAcquire S) : stepWrites S = S.beginStep.startAcquisition := by
  obtain ⟨a, ha⟩ := presentsAcquire_iff.1 h.2.1
  have hp := h.2.2
  rw [stepWrites, phaseAction_idle _ _ hp, ha]
  simp [commandWrites, hp]

/-- A phase action does not read what a command wrote to `cfg_thr`. -/
theorem phaseAction_setCfgThr (S : State) (line : Level) (post : State) (v : Byte) :
    phaseAction S line (post.setCfgThr v) = (phaseAction S line post).setCfgThr v := by
  cases h : S.phase with
  | idle => simp [phaseAction, h]
  | startLow => simp only [phaseAction, h, startLowStep]; split_ifs <;> rfl
  | startHigh => simp only [phaseAction, h, startHighStep]; split_ifs <;> rfl
  | sample =>
    simp only [phaseAction, h, sampleStep, equalSample, flipSample]
    split_ifs
    · rw [evaluate_eq, evaluate_eq]; rfl
    · rfl
    · rw [evaluate_eq, evaluate_eq]; rfl
    · rfl

/-- Without a reset in the queue, a legal elaboration runs a command. -/
theorem runsCommand_of_noReset {S : State} (hL : S.params.Legal) (h : NoReset S) : RunsCommand S := by
  refine ⟨hL, ?_⟩
  unfold currentHost
  cases hh : S.host_in with
  | nil => rfl
  | cons a l => exact h a (by simp [hh])

theorem noReset_stepWrites {S : State} (h : NoReset S) : NoReset (stepWrites S) := by
  intro x hx
  rw [stepWrites_host_in] at hx
  exact h x (List.mem_of_mem_tail hx)

/-- The model's runs are those of the host's interface. -/
theorem core_run_eq_runSteps (k : Nat) (s : State) : Host.Core.run Sys2Proof.core k s = runSteps k s := by
  induction k generalizing s with
  | zero => rfl
  | succ k ih =>
    rw [runSteps_succ]
    cases h : step s with
    | next t =>
      have h' : Sys2Proof.core.step s = .next t := h
      simp only [Host.Core.run, h']
      exact ih t
    | fault e => cases e
    | refused e =>
      have h' : Sys2Proof.core.step s = .refused e := h
      simp only [Host.Core.run, h']
      rfl

end Sys2Proof.Machine
end

