-- ==== Sys2Proof/Tests/Slice0.lean ====
section
/-! SUPPORT. Tests. Expected values come from the spec: the encodings of 30_encoding.md and the vectors of
95_test_vectors.md (W, H, ST, E, A, V), named in each test. The second half gives, for each obligation with hypotheses, a
concrete input that meets them. -/

namespace Sys2Proof.Tests

open Sys2Proof.Machine

/-! ### Helpers -/

/-- The next state, if there is one. -/
def answer (r : Host.Outcome State Fault Refusal) : Option State :=
  match r with
  | .next t => some t
  | .fault _ => none
  | .refused _ => none

theorem next_of_answer {r : Host.Outcome State Fault Refusal} (h : (answer r).isSome = true) : ∃ t, r = .next t := by
  cases r with
  | next t => exact ⟨t, rfl⟩
  | fault e => cases h
  | refused e => cases h

/-- The state with the command word `w` presented (`rst = 0`) and the level `l` on the wire. -/
def present (s : State) (w : CmdWord) (l : Level := .high) : State :=
  { s with host_in := [{ rst := false, cmd := selectorOf w, cmd_arg := argOf w }], line_in := [l] }

/-- The state with `rst = 1` and the command word `w`. -/
def presentReset (s : State) (w : CmdWord) : State :=
  { s with host_in := [{ rst := true, cmd := selectorOf w, cmd_arg := argOf w }], line_in := [.low] }

/-- One step from a state, with a property of the state after it. -/
def After (s : State) (p : State → Bool) : Bool := ((answer (step s)).map p).getD false

/-- A state of the SAMPLE phase. -/
def sampling (win : BitVec 7) (spin : Byte) (prev : Level) (nbits : BitVec 6 := 0#6) (shift : FrameWord := 0#40) : State :=
  { State.reset with phase := .sample, win := win, spin := spin, prev := prev, nbits := nbits, shift := shift }

def startingLow (n : Nat) : State := { State.reset with phase := .startLow, tcount := n }
def startingHigh (n : Nat) : State := { State.reset with phase := .startHigh, tcount := n }

/-- The frame of the source's worked example W1: bytes 45, 0, 23, 5, 73. -/
def w1Frame : FrameWord := 0x2D00170549#40

/-- A small legal elaboration: every length at its least. -/
def smallParams : Params where
  tick_period := { num := 18000000, den := 1 }
  start_low_ticks := 1
  start_high_ticks := 1
  max_windows := 79
  max_spin := 2
  ack_windows := 0
  threshold_reset := 14#8
  tcw := 1

/-! ### WellFormed: each check refuses an ill-formed term, and admits the boundary -/

theorem test_default_is_legal : Params.default.Legal := by decide
theorem test_small_is_legal : smallParams.Legal := by decide
theorem test_tick_period_must_be_positive :
    ¬ (TickPeriod.Legal { num := 0, den := 1 }) ∧ ¬ (TickPeriod.Legal { num := 1, den := 0 }) := by decide
theorem test_max_windows_must_admit_the_frame :
    ¬ { Params.default with max_windows := 82 }.Legal ∧ { Params.default with max_windows := 83 }.Legal := by decide
theorem test_max_windows_must_fit :
    ¬ { Params.default with max_windows := 128 }.Legal ∧ { Params.default with max_windows := 127 }.Legal := by decide
theorem test_max_spin_must_fit :
    ¬ { Params.default with max_spin := 1 }.Legal ∧ { Params.default with max_spin := 2 }.Legal ∧
    ¬ { Params.default with max_spin := 256 }.Legal ∧ { Params.default with max_spin := 255 }.Legal := by decide
theorem test_ack_windows_must_be_even :
    ¬ { Params.default with ack_windows := 5 }.Legal ∧ { Params.default with ack_windows := 6 }.Legal := by decide
theorem test_ack_windows_has_a_bound :
    ¬ { Params.default with ack_windows := 128, max_windows := 207 }.Legal := by decide
theorem test_start_low_must_be_counted_and_last :
    ¬ { Params.default with start_low_ticks := 32769 }.Legal ∧ { Params.default with start_low_ticks := 32768 }.Legal ∧
    ¬ { Params.default with start_low_ticks := 17999 }.Legal ∧ ¬ { Params.default with start_low_ticks := 0 }.Legal := by
  decide
theorem test_start_high_must_be_counted :
    ¬ { Params.default with start_high_ticks := 0 }.Legal ∧ { Params.default with start_high_ticks := 1 }.Legal ∧
    ¬ { Params.default with start_high_ticks := 32769 }.Legal ∧ { Params.default with start_high_ticks := 32768 }.Legal := by
  decide
theorem test_tcw_is_at_least_one :
    ¬ { smallParams with tcw := 0 }.Legal := by decide
theorem test_reserved_selector_must_not_be_issued :
    (Instr.reserved11 0xFF#8).issuable = false ∧ (Instr.acquire 0#8).issuable = true := by decide
theorem test_immediate_must_be_a_byte :
    (HostLine.setThreshold 256).wellFormed = false ∧ (HostLine.setThreshold 255).wellFormed = true := by decide

/-! ### Decoding: words written out from 30_encoding.md R70, R71 (`cmd` in bits 9:8, `cmd_arg` in bits 7:0) -/

theorem test_decode_nop : decode 0b0000000000#10 = .nop 0#8 ∧ decode 0b0010100101#10 = .nop 0xA5#8 := by decide
theorem test_decode_acquire : decode 0b0100000000#10 = .acquire 0#8 ∧ decode 0b0111111111#10 = .acquire 0xFF#8 := by decide
theorem test_decode_set_threshold :
    decode 0b1000010100#10 = .setThreshold 20#8 ∧ decode 0b1011111111#10 = .setThreshold 255#8 := by decide
theorem test_decode_reserved :
    decode 0b1100000000#10 = .reserved11 0#8 ∧ decode 0b1111111111#10 = .reserved11 0xFF#8 := by decide
theorem test_encode_set_threshold : encode (.setThreshold 20#8) = 0x214#10 ∧ encode (.acquire 0#8) = 0x100#10 := by decide
theorem test_table_word :
    decodeTableWord 10 0x20F = some (.setThreshold 15#8) ∧ decodeTableWord 16 0x3FF = some (.reserved11 0xFF#8) ∧
    decodeTableWord 16 0x400 = none := by decide
theorem test_wide_word_is_rejected_by_name : (match decodeNumber 1024 with
    | .ok _ => false
    | .error e => e == .wordTooWide 1024) = true := by decide

/-! ### The host commands: vectors H1 to H16 -/

theorem test_H1_H2_nop :
    After (present { State.reset with done := true, outcome := .success } 0x000#10)
      (fun t => !t.done && t.outcome == .success && t.phase == .idle) = true ∧
    After (present State.reset 0x0A5#10) (fun t => t == { State.reset with tick := 1 }) = true := by decide
theorem test_H3_H11_acquire :
    After (present State.reset 0x100#10) (fun t => t.phase == .startLow && t.tcount == 0 && t.thr_act == 14#8 &&
      t.outcome == .none && busy t && lineOe t && !lineOut t) = true ∧
    After (present { State.reset with cfg_thr := 20#8 } 0x100#10) (fun t => t.thr_act == 20#8) = true := by decide
theorem test_H4_H5_acquire_clears :
    After (present { State.reset with
        done := true, outcome := .timeout, nbits_out := 23#6, nwin_out := 50#7, frame_pub := 0x2D0017054A#40,
        frame_valid := true, reading_valid := true, hum_tenths := 450#12, temp_tenths := 235#12 } 0x100#10)
      (fun t => t.outcome == .none && t.nbits_out == 0#6 && t.nwin_out == 0#7 && t.frame_pub == 0#40 && !t.frame_valid &&
        !t.reading_valid && t.hum_tenths == 0#12 && t.temp_tenths == 0#12 && !t.done) = true := by decide
theorem test_H6_H7_acquire_while_busy :
    After (present (startingLow 5) 0x100#10) (fun t => t.phase == .startLow && t.tcount == 6) = true ∧
    After (present (sampling 10#7 3#8 .high) 0x100#10) (fun t => t.win == 10#7 && t.spin == 4#8) = true := by decide
theorem test_H8_H10_set_threshold :
    After (present State.reset 0x214#10) (fun t => t.cfg_thr == 20#8 && (outputs t).thr == 20#8 && t.thr_act == 14#8) = true ∧
    After (present { State.reset with cfg_thr := 7#8 } 0x200#10) (fun t => t.cfg_thr == 0#8) = true := by decide
theorem test_H9_set_threshold_while_sampling :
    After (present (sampling 0#7 2#8 .high) 0x2FF#10)
      (fun t => t.cfg_thr == 255#8 && t.thr_act == 14#8 && t.spin == 3#8) = true := by decide
theorem test_H12_H13_reserved :
    After (present State.reset 0x3FF#10) (fun t => t == { State.reset with tick := 1 }) = true ∧
    After (present (startingHigh 10) 0x300#10) (fun t => t.phase == .startHigh && t.tcount == 11) = true := by decide
theorem test_H14_H15_H16_reset :
    After (presentReset (sampling 10#7 3#8 .high) 0x000#10) (fun t => t == { State.reset with tick := 1 }) = true ∧
    After (presentReset State.reset 0x100#10) (fun t => t.phase == .idle) = true ∧
    After (presentReset { State.reset with cfg_thr := 30#8 } 0x209#10) (fun t => t.cfg_thr == 14#8) = true := by decide

/-! ### The start sequence: the steps between the states ST2 to ST6 -/

theorem test_ST3_ST4 :
    After (present (startingLow 17998) 0#10) (fun t => t.phase == .startLow && t.tcount == 17999 && !lineOut t) = true ∧
    After (present (startingLow 17999) 0#10) (fun t => t.phase == .startHigh && t.tcount == 0 && lineOut t) = true := by
  decide
theorem test_ST5_ST6 :
    After (present (startingHigh 38) 0#10) (fun t => t.phase == .startHigh && t.tcount == 39 && lineOe t) = true ∧
    After (present (startingHigh 39) 0#10) (fun t => t.phase == .sample && t.tcount == 0 && t.win == 0#7 && t.spin == 0#8 &&
      t.prev == .high && !lineOe t && busy t) = true := by decide

/-! ### Edge sampling: vectors E1 to E9 -/

theorem test_E1_E2_E3 :
    After (present (sampling 0#7 2#8 .high) 0#10 .high) (fun t => t.spin == 3#8 && t.win == 0#7) = true ∧
    After (present (sampling 0#7 3#8 .high) 0#10 .low)
      (fun t => t.win == 1#7 && t.spin == 1#8 && t.prev == .low && t.nbits == 0#6 && t.shift == 0#40) = true ∧
    After (present (sampling 0#7 0#8 .high) 0#10 .low) (fun t => t.win == 1#7 && t.spin == 1#8 && t.prev == .low) = true := by
  decide
theorem test_E4_E5 :
    After (present (sampling 4#7 16#8 .high) 0#10 .low)
      (fun t => t.win == 5#7 && t.spin == 1#8 && t.prev == .low && t.nbits == 1#6 && t.shift == 1#40) = true ∧
    After (present (sampling 5#7 6#8 .low 1#6) 0#10 .high)
      (fun t => t.win == 6#7 && t.spin == 1#8 && t.prev == .high && t.nbits == 1#6) = true := by decide
theorem test_E6_E7 :
    After (present (sampling 30#7 253#8 .low 13#6) 0#10 .low) (fun t => t.spin == 254#8 && t.phase == .sample) = true ∧
    After (present (sampling 30#7 254#8 .low 13#6) 0#10 .low) (fun t => t.outcome == .insufficientBits && t.phase == .idle &&
      t.done && t.nbits_out == 13#6 && t.nwin_out == 30#7) = true := by decide
theorem test_E8_E9 :
    After (present (sampling 84#7 20#8 .high 40#6 w1Frame) 0#10 .low) (fun t => t.outcome == .success && t.win == 85#7 &&
      t.nwin_out == 85#7 && t.shift == w1Frame && t.nbits == 40#6) = true ∧
    After (present (sampling 84#7 254#8 .high 40#6 w1Frame) 0#10 .high) (fun t => t.outcome == .success &&
      t.nwin_out == 84#7 && t.win == 84#7 && t.spin == 254#8) = true := by decide

/-! ### Classification and assembly: vectors A1 to A12 -/

theorem test_A1_to_A8 :
    classify 14 14#8 = false ∧ classify 15 14#8 = true ∧ classify 5 14#8 = false ∧ classify 16 15#8 = true ∧
    classify 1 0#8 = true ∧ classify 254 254#8 = false ∧ classify 254 253#8 = true ∧ classify 254 255#8 = false := by decide
theorem test_A9 :
    dataWindow Params.default 3 .low = false ∧ dataWindow Params.default 3 .high = false ∧
    dataWindow Params.default 4 .low = false ∧ dataWindow Params.default 4 .high = true ∧
    dataWindow Params.default 84 .high = true := by decide
theorem test_A10 : shiftInAll 0#40 [false, false, true, false, true, true, false, true] = 0x2D#40 := by decide
theorem test_A12 : assemble Params.default 84 .high 20 w1Frame 40 14#8 = (w1Frame, 40) := by decide

/-! ### Evaluation: vectors V1 to V17 (`W3`, `W2` and `W1` are V8, V6 and V5) -/

/-- What an evaluation decides: outcome, frame_valid, reading_valid, hum_tenths, temp_tenths. -/
def verdict (n : Nat) (f : FrameWord) (W : Nat) : DecodeOutcome × Bool × Bool × Nat × Nat :=
  let t := evaluate n f W State.reset
  (t.outcome, t.frame_valid, t.reading_valid, t.hum_tenths.toNat, t.temp_tenths.toNat)

theorem test_V1_to_V4 :
    verdict 0 0#40 0 = (.insufficientBits, false, false, 0, 0) ∧
    verdict 20 w1Frame 43 = (.insufficientBits, false, false, 0, 0) ∧
    verdict 20 w1Frame 44 = (.timeout, false, false, 0, 0) ∧ verdict 39 w1Frame 82 = (.timeout, false, false, 0, 0) := by
  decide
theorem test_V5_to_V7 :
    verdict 40 0x2D00170549#40 84 = (.success, true, true, 450, 235) ∧
    verdict 40 0x2D0017054A#40 84 = (.checksumMismatch, true, false, 0, 0) ∧
    verdict 40 0x2D00170500#40 84 = (.checksumMismatch, true, false, 0, 0) := by decide
theorem test_V8_V9 :
    verdict 40 0#40 84 = (.implausibleFrame, true, false, 0, 0) ∧
    verdict 40 1#40 84 = (.checksumMismatch, true, false, 0, 0) := by decide
theorem test_V10_to_V13 :
    verdict 40 0x0007000209#40 84 = (.implausibleFrame, true, false, 0, 0) ∧
    verdict 40 0x2D03000737#40 84 = (.success, true, true, 453, 7) ∧
    verdict 40 0x0003190723#40 84 = (.success, true, true, 3, 257) ∧
    verdict 40 0xFFFFFFFFFC#40 84 = (.success, true, true, 2805, 2805) := by decide
theorem test_V14_to_V17 :
    verdict 40 0xFFFFFFFFFF#40 85 = (.checksumMismatch, true, false, 0, 0) ∧
    verdict 40 0x170F000026#40 84 = (.success, true, true, 245, 0) ∧
    verdict 40 0x0000010001#40 84 = (.success, true, true, 0, 10) ∧
    verdict 40 0x2D0000002D#40 84 = (.success, true, true, 450, 0) := by decide

/-! ### Duties of the host -/

theorem test_host_rules :
    hostKeepsRules (present (startingLow 5) 0x100#10) = false ∧ hostKeepsRules (present State.reset 0x300#10) = false ∧
    hostKeepsRules (present State.reset 0x100#10) = true ∧ beginsWithReset (presentReset State.reset 0#10) = true ∧
    quiescent Params.default [0, 999999] = false ∧ quiescent Params.default [0, 1000000] = true := by decide
theorem test_program_with_a_bad_immediate : (match runProgram 9 [.setThreshold 256] State.reset with
    | .ok _ => false
    | .error e => e == .immediateOutOfRange 256) = true := by decide

/-! ### Witnesses: for each obligation with hypotheses, an input that meets them

The name after `witness_` is the obligation's. Where a statement has several clauses, each has its own input. -/

/-- A state on the last sample before a normal end. -/
def lastFlip : State := present (sampling 84#7 20#8 .high 40#6 w1Frame) 0#10 .low

/-- A SAMPLE state of the small elaboration before its first sample, with the levels `ls` to come. -/
def smallSampling (ls : List Level) : State :=
  { State.reset with phase := .sample, params := smallParams, line_in := ls }

/-- A state of the small elaboration that accepts an ACQUIRE, with the levels `ls` to come. -/
def smallAcquiring (ls : List Level) : State :=
  { State.reset with params := smallParams, host_in := [HostInput.ofCommand (.acquire 0#8)], line_in := ls }

theorem witness_PlacedWordIsTheNextCommand : decodeTableWord 10 0x214 = some (.setThreshold 20#8) := by decide

theorem witness_HostLinesExpand : 255 ≤ 255 ∧ 255 < 256 := by decide

theorem witness_StepRunsTheDecodedCommand :
    ∀ s ∈ [State.reset, startingLow 17999, startingHigh 39, sampling 4#7 16#8 .high], ∃ S t : State, ∃ h : HostInput,
      S.phase = s.phase ∧ S.params.Legal ∧ S.host_in = h :: [] ∧ h.rst = false ∧
      decode (commandWord h.cmd h.cmd_arg) = .setThreshold 20#8 ∧
      exec (.setThreshold 20#8) { S with host_in := [], line_in := S.line_in.tail, tick := S.tick + 1, done := false } =
        .next t := by
  intro s hs
  have hp : s.params.Legal := by revert s; decide
  exact ⟨present s 0x214#10 .low, _, _, rfl, hp, rfl, rfl, by decide, rfl⟩

theorem witness_EmptyHostQueueIsNop : State.reset.host_in = [] := by decide

theorem witness_ResetStepGivesTheResetState : ∃ S : State, ∃ h : HostInput,
    S.params.Legal ∧ S.host_in = h :: [] ∧ h.rst = true ∧ S.phase = .sample ∧ h.cmd = 0b01#2 :=
  ⟨presentReset (sampling 4#7 16#8 .high) 0x100#10, _, by decide, rfl, by decide, by decide, by decide⟩

/-- Each clause of IllegalElaborationIsRefused at its boundary, in an elaboration that breaks it. -/
theorem witness_IllegalElaborationIsRefused :
    82 + 1 < 4 + 2 * 40 ∧ 127 < 128 ∧ 1 < 2 ∧ 255 < 256 ∧ 5 % 2 = 1 ∧ 0 < 1 ∧ 2 ^ 15 < 32769 ∧
    17999 * 1000 < 18000000 * 1 ∧
    (∀ p ∈ [{ Params.default with max_windows := 82 }, { Params.default with max_windows := 128 },
        { Params.default with max_spin := 1 }, { Params.default with max_spin := 256 },
        { Params.default with ack_windows := 5 }, { Params.default with start_low_ticks := 0 },
        { Params.default with start_low_ticks := 32769 }, { Params.default with start_high_ticks := 0 },
        { Params.default with start_high_ticks := 32769 }, { Params.default with start_low_ticks := 17999 }],
      ¬ p.Legal) := by decide

theorem witness_ResetValues : ∃ S s : State, IsResetStep S ∧ S.phase = .sample ∧ step S = .next s :=
  ⟨presentReset (sampling 4#7 16#8 .high) 0x100#10, _, by decide, rfl, (next_of_answer (by decide)).choose_spec⟩

/-- Every length of the small elaboration is at the least the ranges allow. -/
theorem witness_NothingFaults :
    let p := (smallSampling []).params
    0 < p.tick_period.num ∧ 0 < p.tick_period.den ∧ 1 ≤ p.tcw ∧
    1 ≤ p.start_low_ticks ∧ p.start_low_ticks ≤ 2 ^ p.tcw ∧ 1 ≤ p.start_high_ticks ∧ p.start_high_ticks ≤ 2 ^ p.tcw ∧
    18000000 * p.tick_period.den ≤ p.start_low_ticks * p.tick_period.num ∧
    p.ack_windows + 2 * 40 - 1 ≤ p.max_windows ∧ p.max_windows ≤ 127 ∧ 2 ≤ p.max_spin ∧ p.max_spin ≤ 255 ∧
    p.ack_windows % 2 = 0 ∧ p.ack_windows ≤ 126 := by decide

theorem witness_CommandAndPhaseWriteDisjointFields :
    (∃ t, exec (.acquire 0#8) (State.beginStep State.reset) = .next t) ∧
    (∃ t, exec (.setThreshold 9#8) (State.beginStep (sampling 4#7 16#8 .high)) = .next t) :=
  ⟨⟨_, rfl⟩, ⟨_, rfl⟩⟩

theorem witness_LineIsIgnoredOutsideSample :
    ∀ s ∈ [State.reset, startingLow 17999, startingHigh 39], s.params.Legal ∧ s.phase ≠ .sample := by decide

/-- Every kind of step answers a next state: a reset step, the three start-phase cases and both ends of sampling. -/
theorem witness_PhaseTransitions :
    (∀ s ∈ [presentReset (startingLow 5) 0#10, present State.reset 0x100#10, present State.reset 0#10,
        present (startingLow 17998) 0#10, present (startingLow 17999) 0#10, present (startingHigh 38) 0#10,
        present (startingHigh 39) 0#10, present (sampling 0#7 253#8 .high) 0#10 .high,
        present (sampling 0#7 254#8 .high) 0#10 .high, lastFlip],
      ∃ t, step s = .next t) := by
  intro s hs
  exact next_of_answer (by revert s; decide)

theorem witness_CfgThrIsWrittenBySetThresholdAndReset :
    (∃ t, step (present (startingLow 5) 0x214#10) = .next t) ∧
    (∃ t, step (presentReset (startingLow 5) 0x214#10) = .next t) :=
  ⟨next_of_answer (by decide), next_of_answer (by decide)⟩

theorem witness_ThrActIsWrittenByAcceptedAcquireAndReset :
    (∃ t, step (present { State.reset with cfg_thr := 20#8 } 0x100#10) = .next t) ∧
    (∃ t, step (present (startingLow 5) 0x100#10) = .next t) :=
  ⟨next_of_answer (by decide), next_of_answer (by decide)⟩

theorem witness_DoneExactlyAfterACompletingStep :
    (∃ t, step lastFlip = .next t) ∧ RunsCommand lastFlip ∧ Completes lastFlip (currentLine lastFlip) :=
  ⟨next_of_answer (by decide), by decide, by decide⟩

theorem witness_OutputsFollowThePhase : lineOe (sampling 0#7 0#8 .high) = false := by decide

theorem witness_WireIsDrivenInTheStartSequenceOnly :
    (startingLow 0).phase = .startLow ∧ (startingHigh 0).phase = .startHigh ∧ State.reset.phase = .idle ∧
    (sampling 0#7 0#8 .high).phase = .sample := by decide

theorem witness_AcquireStartsOrIsIgnored : State.reset.phase = .idle ∧ (startingLow 5).phase ≠ .idle := by decide

theorem witness_CommandsChangeOnlyTheirOwnFields :
    (∃ t, exec (.nop 0#8) State.reset = .next t ∧ (∀ v, Instr.nop 0#8 ≠ .setThreshold v) ∧ ∀ a, Instr.nop 0#8 ≠ .acquire a) ∧
    (∃ t, exec (.acquire 0#8) (startingLow 5) = .next t ∧ (startingLow 5).phase ≠ .idle) :=
  ⟨⟨_, rfl, nofun, nofun⟩, ⟨_, rfl, by decide⟩⟩

theorem witness_IdleWaits :
    ∀ S ∈ [present State.reset 0#10, present State.reset 0x214#10, present State.reset 0x3FF#10],
      RunsCommand S ∧ S.phase = .idle ∧ presentsAcquire S = false := by decide

theorem witness_ConsecutiveAcquiresAreNotBothAccepted :
    AcceptsAcquire (present State.reset 0x100#10) ∧ ∃ t, step (present State.reset 0x100#10) = .next t :=
  ⟨by decide, next_of_answer (by decide)⟩

theorem witness_ThresholdSetBeforeAcquireIsLatched : ∃ S : State, S.params.Legal ∧ S.phase = .idle ∧
    S.host_in = HostInput.ofCommand (.setThreshold 15#8) :: HostInput.ofCommand (.acquire 0#8) :: [] :=
  ⟨{ State.reset with host_in := [HostInput.ofCommand (.setThreshold 15#8), HostInput.ofCommand (.acquire 0#8)] },
    by decide, rfl, rfl⟩

theorem witness_StartLowStep : ∀ S ∈ [present (startingLow 0) 0#10, present (startingLow 17999) 0x214#10],
    RunsCommand S ∧ S.phase = .startLow ∧ S.tcount < S.params.start_low_ticks := by decide

theorem witness_StartHighStep : ∀ S ∈ [present (startingHigh 0) 0#10, present (startingHigh 39) 0x214#10],
    RunsCommand S ∧ S.phase = .startHigh ∧ S.tcount < S.params.start_high_ticks := by decide

theorem witness_StartSequenceDuration :
    AcceptsAcquire (present State.reset 0x100#10) ∧ NoReset (present State.reset 0x100#10) := by decide

theorem witness_EqualSampleExtendsOrAborts :
    ∀ S ∈ [present (sampling 30#7 253#8 .low) 0#10 .low, present (sampling 30#7 254#8 .low) 0#10 .low],
      RunsCommand S ∧ S.phase = .sample ∧ currentLine S = S.prev := by decide

theorem witness_FlipCompletesTheWindow :
    ∀ S ∈ [present (sampling 83#7 6#8 .low 40#6) 0#10 .high, lastFlip],
      RunsCommand S ∧ S.phase = .sample ∧ currentLine S ≠ S.prev := by decide

theorem witness_WindowsAlternateInLevel :
    (lastFlip.prev = .high ↔ lastFlip.win.toNat % 2 = 0) ∧ ∃ t, step lastFlip = .next t :=
  ⟨by decide, next_of_answer (by decide)⟩

theorem witness_NormalEndEvaluatesAFullFrame :
    BlockInv lastFlip ∧ RunsCommand lastFlip ∧ lastFlip.phase = .sample ∧ EndsNormally lastFlip (currentLine lastFlip) :=
  ⟨by decide, by decide, by decide, by decide⟩

theorem witness_EveryAcquisitionEndsInBoundedTime :
    (BlockInv (smallAcquiring []) ∧ AcceptsAcquire (smallAcquiring []) ∧ NoReset (smallAcquiring [])) ∧
    (BlockInv (smallSampling []) ∧ (smallSampling []).phase = .sample ∧ NoReset (smallSampling [])) :=
  ⟨⟨by decide, by decide, by decide⟩, by decide, by decide, by decide⟩

theorem witness_WaitDoneExpandsWithinItsBound :
    BlockInv (smallAcquiring []) ∧ AcceptsAcquire (smallAcquiring []) ∧ ∃ t, step (smallAcquiring []) = .next t :=
  ⟨by decide, by decide, next_of_answer (by decide)⟩

theorem witness_EqualSamplesOnlyCount : ∃ S : State,
    S.params.Legal ∧ S.phase = .sample ∧ NoReset S ∧ S.line_in.take (2 + 1) = List.replicate (2 + 1) S.prev ∧
    S.spin.toNat + (2 + 1) < S.params.max_spin :=
  ⟨{ sampling 4#7 251#8 .high with line_in := [.high, .high, .high] }, by decide, rfl, by decide, rfl, by decide⟩

theorem witness_StuckLineAborts : ∀ l ∈ [Level.high, Level.low], ∃ S : State,
    S.params.Legal ∧ S.phase = .sample ∧ S.win = 0#7 ∧ S.spin = 0#8 ∧ S.prev = .high ∧ S.nbits = 0#6 ∧ NoReset S ∧
    S.line_in = List.replicate S.params.max_spin l ++ [] := by
  intro l _
  exact ⟨smallSampling [l, l], test_small_is_legal, rfl, rfl, rfl, rfl, rfl, nofun, rfl⟩

theorem witness_BitIsOneAboveTheThreshold : 14 = (14#8).toNat ∧ 254 ≤ 254 ∧ 1 ≤ 1 := by decide

theorem witness_AssemblyShiftsInUntilFull :
    dataWindow Params.default 3 .high = false ∧ dataWindow Params.default 4 .low = false ∧
    (dataWindow Params.default 82 .high = true ∧ 39 ≠ 40) ∧ dataWindow Params.default 84 .high = true := by decide

theorem witness_NbitsNeverExceedsForty :
    lastFlip.nbits.toNat ≤ 40 ∧ lastFlip.shift.toNat < 2 ^ lastFlip.nbits.toNat ∧ ∃ t, step lastFlip = .next t :=
  ⟨by decide, by decide, next_of_answer (by decide)⟩

theorem witness_FrameBitsArriveMostSignificantFirst : (List.replicate 39 true ++ [false]).length = 40 := by decide

/-- Each row of the table: V2, V3, V6, V10 and V16. -/
theorem witness_OutcomeTable : ResultsCleared State.reset ∧
    (20 < 40 ∧ 43 < State.reset.params.ack_windows + 40) ∧ (20 < 40 ∧ State.reset.params.ack_windows + 40 ≤ 44) ∧
    checksum 0x2D0017054A#40 ≠ (byte4 0x2D0017054A#40).toNat ∧
    (checksum 0x0007000209#40 = (byte4 0x0007000209#40).toNat ∧ byte0 0x0007000209#40 = 0#8 ∧ byte2 0x0007000209#40 = 0#8) ∧
    (checksum 0x0000010001#40 = (byte4 0x0000010001#40).toNat ∧ byte2 0x0000010001#40 ≠ 0#8) := by decide

theorem witness_EvaluationFrame :
    40 ≤ 40 ∧ 127 ≤ 127 ∧ (evaluate 39 w1Frame 82 State.reset).outcome ≠ .success ∧ 39 < 40 := by decide

theorem witness_EveryWrongChecksumByteIsCaught : ∃ f g : FrameWord,
    checksum f = (byte4 f).toNat ∧ byte0 g = byte0 f ∧ byte1 g = byte1 f ∧ byte2 g = byte2 f ∧ byte3 g = byte3 f ∧
    byte4 g ≠ byte4 f := ⟨w1Frame, 0x2D0017054A#40, by decide⟩

theorem witness_ReadingIsExactInTenths :
    checksum 0xFFFFFFFFFC#40 = (byte4 0xFFFFFFFFFC#40).toNat ∧ byte0 0xFFFFFFFFFC#40 ≠ 0#8 := by decide

theorem witness_ResultsPersistUntilCleared : ∃ S : State,
    (∃ t, step S = .next t) ∧ RunsCommand S ∧ ¬ AcceptsAcquire S ∧ ¬ Completes S (currentLine S) ∧ S.outcome = .success :=
  ⟨present { State.reset with outcome := .success, done := true } 0x2FF#10, next_of_answer (by decide), by decide,
    by decide, by decide, by decide⟩

/-- A reset step of a legal elaboration that is not the default one, from a state outside the invariant. -/
theorem witness_ResetSatisfiesTheInvariant : ∃ S t : State,
    IsResetStep S ∧ S.params ≠ Params.default ∧ ¬ BlockInv S ∧ step S = .next t :=
  ⟨presentReset { smallSampling [] with tcount := 5, nbits := 63#6 } 0x000#10, _, by decide, by decide, by decide,
    (next_of_answer (by decide)).choose_spec⟩

theorem witness_EveryStepKeepsTheInvariant : BlockInv lastFlip ∧ ∃ t, step lastFlip = .next t :=
  ⟨by decide, next_of_answer (by decide)⟩

/-- A trace that starts Low (window 0 of duration 0), one of a held level, and one of MAX_WINDOWS windows. -/
theorem witness_SamplingDecodesTheRunLengths :
    ∀ ds ∈ [[0, 1, 1], [], List.replicate 79 1], ∃ S : State,
      S.params.Legal ∧ S.phase = .sample ∧ S.win = 0#7 ∧ S.spin = 0#8 ∧ S.prev = .high ∧ S.shift = 0#40 ∧ S.nbits = 0#6 ∧
      ResultsCleared S ∧ NoReset S ∧ ValidTrace S.params ds ∧ S.line_in = samplesOf S.params ds ++ [] := by
  intro ds hds
  have hv : ValidTrace smallParams ds := by revert ds; decide
  exact ⟨smallSampling (samplesOf smallParams ds ++ []), test_small_is_legal, rfl, rfl, rfl, rfl, rfl, rfl,
    ⟨rfl, rfl, rfl, rfl, rfl, rfl, rfl, rfl⟩, nofun, hv, rfl⟩

theorem witness_AcquisitionDecodesItsTrace : ∃ S : State, ∃ before : List Level,
    AcceptsAcquire S ∧ NoReset S ∧ ValidTrace S.params [0, 1, 1] ∧ before.length = firstSampleStep S.params 0 ∧
    S.line_in = before ++ samplesOf S.params [0, 1, 1] ++ [] :=
  ⟨smallAcquiring ([.low, .low, .low] ++ samplesOf smallParams [0, 1, 1] ++ []), [.low, .low, .low], by decide, by decide,
    by decide, by decide, rfl⟩

theorem witness_DecodingDependsOnTheTraceAlone : ∃ S : State, ∃ hs : List HostInput,
    S.params.Legal ∧ NoReset S ∧ (∀ h ∈ hs, h.rst = false) ∧ 1 ≤ S.line_in.length ∧
    ∀ j, j < 1 → ∃ u, runSteps j S = .next u ∧ u.phase ≠ .idle :=
  ⟨smallSampling [.high], [HostInput.ofCommand (.setThreshold 255#8)], by decide, by decide, by decide, by decide,
    fun j hj => ⟨smallSampling [.high], by obtain rfl : j = 0 := by omega
                                           rfl, by decide⟩⟩

theorem witness_QuiescentIntervalInSteps : TickPeriod.Legal { num := 1000, den := 3 } := by decide

end Sys2Proof.Tests
end

section
/-! The statements about the scope of the block (00_scope.md). -/

namespace Sys2Proof.Machine

/-- Settles O12: each way to break R6 contradicts the bound of a legal elaboration (`Params.SamplingLegal`,
`Params.StartLegal`) it is the negation of, and `step` refuses whatever is not legal. -/
theorem illegalElaborationIsRefused : Obligations.IllegalElaborationIsRefused := by
  intro S broken
  refine step_illegal fun legal => ?_
  obtain ⟨-, ⟨-, lowPos, lowFits, highPos, highFits, lowLasts⟩, windowsAdmitFrame, windowsFit, spinMin, spinFits,
    ackEven, -⟩ := legal
  rcases broken with h | h | h | h | h | h | h | h | h | h
  · have : S.params.ack_windows + 2 * 40 - 1 ≤ S.params.max_windows := windowsAdmitFrame
    omega
  · exact absurd windowsFit (Nat.not_le.mpr h)
  · exact absurd spinMin (Nat.not_le.mpr h)
  · exact absurd spinFits (Nat.not_le.mpr h)
  · omega
  · exact absurd lowPos (Nat.not_le.mpr h)
  · exact absurd lowFits (Nat.not_le.mpr h)
  · exact absurd highPos (Nat.not_le.mpr h)
  · exact absurd highFits (Nat.not_le.mpr h)
  · exact absurd lowLasts (Nat.not_le.mpr h)

end Sys2Proof.Machine
end

section
/-! Facts of the operations that the statements about the state (10_state.md) share. -/

namespace Sys2Proof.Machine

/-! ### What an evaluation publishes -/

variable (n : Nat) (f : FrameWord) (W : Nat) (post : State)

@[simp] theorem evaluate_frame_pub :
    (evaluate n f W post).frame_pub = if n < frameBits then post.frame_pub else f := by rw [evaluate_eq]
@[simp] theorem evaluate_frame_valid :
    (evaluate n f W post).frame_valid = if n < frameBits then post.frame_valid else true := by rw [evaluate_eq]
@[simp] theorem evaluate_reading_valid :
    (evaluate n f W post).reading_valid =
      if outcomeOf post.params n f W = .success then true else post.reading_valid := by rw [evaluate_eq]
@[simp] theorem evaluate_hum_tenths :
    (evaluate n f W post).hum_tenths =
      if outcomeOf post.params n f W = .success then tenthsOf (byte0 f) (byte1 f) else post.hum_tenths := by
  rw [evaluate_eq]
@[simp] theorem evaluate_temp_tenths :
    (evaluate n f W post).temp_tenths =
      if outcomeOf post.params n f W = .success then tenthsOf (byte2 f) (byte3 f) else post.temp_tenths := by
  rw [evaluate_eq]

/-! ### What the command part and the phase part leave to each other -/

/-- In a busy phase the step is the phase action without the command, with the `cfg_thr` the command left. -/
theorem stepWrites_eq_phaseAction_beginStep {S : State} (busy : S.phase ≠ .idle) :
    stepWrites S = (phaseAction S (currentLine S) S.beginStep).setCfgThr (stepWrites S).cfg_thr :=
  (stepWrites_busy busy).trans (phaseAction_setCfgThr _ _ _ _)

theorem stepWrites_idle {S : State} (idle : S.phase = .idle) :
    stepWrites S = commandWrites (currentCommand S) S.beginStep :=
  phaseAction_idle _ _ idle

end Sys2Proof.Machine
end

section
/-! The invariant of the block: reset establishes it and every write of a step keeps it (O52, O53). -/

namespace Sys2Proof.Machine

/-! ### Assembly counts the data windows -/

/-- A window of even index from ACK_WINDOWS on is counted when it is completed, and no other is: its level is the parity of its
index, and ACK_WINDOWS is even. -/
theorem dataWindowsBelow_succ {p : Params} {w : Nat} {lvl : Level} (ackEven : p.ack_windows % 2 = 0)
    (alternates : lvl = .high ↔ w % 2 = 0) :
    dataWindowsBelow p (w + 1) = dataWindowsBelow p w + (dataWindow p w lvl).toNat := by
  simp only [dataWindowsBelow]
  cases hd : dataWindow p w lvl with
  | true =>
    obtain ⟨afterAck, isHigh⟩ := dataWindow_iff.1 hd
    have := alternates.1 isHigh
    simp only [Bool.toNat_true]
    omega
  | false =>
    have noData : ¬ (p.ack_windows ≤ w ∧ w % 2 = 0) := fun h =>
      Bool.false_ne_true (hd.symm.trans (dataWindow_iff.2 ⟨h.1, alternates.2 h.2⟩))
    simp only [Bool.toNat_false]
    omega

theorem shiftIn_lt {f : FrameWord} {n : Nat} (h : f.toNat < 2 ^ n) (b : Bool) : (shiftIn f b).toNat < 2 ^ (n + 1) := by
  have : b.toNat ≤ 1 := b.toNat_le
  calc (shiftIn f b).toNat = (2 * f.toNat + b.toNat) % 2 ^ 40 := shiftIn_toNat f b
    _ ≤ 2 * f.toNat + b.toNat := Nat.mod_le _ _
    _ < 2 ^ (n + 1) := by rw [Nat.pow_succ]; omega

section
variable {p : Params} {w : Nat} {lvl : Level} {d : Nat} {shift : FrameWord} {nbits : Nat} {thr : Byte}

theorem assemble_shift_lt (h : shift.toNat < 2 ^ nbits) :
    (assemble p w lvl d shift nbits thr).1.toNat < 2 ^ (assemble p w lvl d shift nbits thr).2 := by
  obtain ⟨-, e⟩ | ⟨-, e⟩ | ⟨-, -, e⟩ := assemble_cases (p := p) (w := w) (lvl := lvl) (d := d) (shift := shift)
    (nbits := nbits) (thr := thr) <;> rw [e]
  · exact h
  · exact h
  · exact shiftIn_lt h _

/-- After the window `w`, `nbits` is the number of data windows completed, capped at 40 (43_frame_assembly.md R164). -/
theorem assemble_counts (ackEven : p.ack_windows % 2 = 0) (alternates : lvl = .high ↔ w % 2 = 0)
    (counted : nbits = min frameBits (dataWindowsBelow p w)) :
    (assemble p w lvl d shift nbits thr).2 = min frameBits (dataWindowsBelow p (w + 1)) := by
  rw [dataWindowsBelow_succ ackEven alternates]
  obtain ⟨noData, e⟩ | ⟨full, e⟩ | ⟨data, notFull, e⟩ := assemble_cases (p := p) (w := w) (lvl := lvl) (d := d)
    (shift := shift) (nbits := nbits) (thr := thr) <;> rw [e]
  · simpa [noData] using counted
  · dsimp only
    omega
  · simp only [data, Bool.toNat_true]
    omega

end

/-! ### Reset and the writes of the command part -/

/-- A legal elaboration has room for a window: MAX_WINDOWS is at least that of 40 data windows (00_scope.md R6). -/
theorem windows_pos {p : Params} (legal : p.Legal) : 0 < p.max_windows := by
  obtain ⟨-, -, (frameFits : p.ack_windows + 2 * 40 - 1 ≤ p.max_windows), -⟩ := legal
  omega

theorem dataWindowsBelow_zero {p : Params} (legal : p.Legal) : dataWindowsBelow p 0 = 0 := by
  obtain ⟨-, -, -, -, -, -, ackEven, -⟩ := legal
  simp only [dataWindowsBelow]
  omega

/-- Before the first sample: window 0, which is High, with no sample counted. -/
theorem windowInv_window0 {s : State} (legal : s.params.Legal) (win : s.win = 0#7) (spin : s.spin = 0#8)
    (prev : s.prev = .high) : WindowInv s := by
  have ⟨_, _, _, _, spinMin, _⟩ := legal
  have spinPos : 0 < s.params.max_spin := by omega
  simp [WindowInv, win, spin, prev, windows_pos legal, spinPos]

/-- Before the first sample: no bit is assembled. -/
theorem assemblyInv_window0 {s : State} (legal : s.params.Legal) (win : s.win = 0#7) (shift : s.shift = 0#40)
    (nbits : s.nbits = 0#6) : AssemblyInv s := by
  simp [AssemblyInv, win, shift, nbits, dataWindowsBelow_zero legal]

theorem blockInv_applyReset {s : State} (legal : s.params.Legal) : BlockInv s.applyReset :=
  ⟨legal, by simp [TcountInv], windowInv_window0 legal rfl rfl rfl, assemblyInv_window0 legal rfl rfl rfl,
    .inl (by simp [ResultsCleared])⟩

theorem blockInv_startAcquisition {s : State} (legal : s.params.Legal) (notDone : s.done = false) :
    BlockInv s.startAcquisition := by
  have ⟨_, ⟨_, lowPos, _⟩, _⟩ := legal
  rw [Nat.succ_le_iff] at lowPos
  exact ⟨legal, by simp [TcountInv, lowPos], windowInv_window0 legal rfl rfl rfl, assemblyInv_window0 legal rfl rfl rfl,
    .inl (by simp [ResultsCleared, notDone])⟩

/-- The invariant does not speak of `cfg_thr`. -/
theorem blockInv_setCfgThr {s : State} (h : BlockInv s) (v : Byte) : BlockInv (s.setCfgThr v) := h

/-- The invariant does not speak of the inputs, and holds of `done` = 0 where it holds of `done` = 1. -/
theorem blockInv_beginStep {S : State} (h : BlockInv S) : BlockInv S.beginStep := by
  obtain ⟨legal, tcount, window, assembly, results⟩ := h
  exact ⟨legal, tcount, window, assembly, results.imp_left fun cleared => ⟨cleared.1, rfl⟩⟩

theorem blockInv_commandWrites {s : State} (h : BlockInv s) (notDone : s.done = false) (i : Instr) :
    BlockInv (commandWrites i s) := by
  obtain e | ⟨v, -, e⟩ | ⟨-, -, -, e⟩ := commandWrites_cases i s <;> rw [e]
  · exact h
  · exact blockInv_setCfgThr h v
  · exact blockInv_startAcquisition h.1 notDone

/-! ### The writes of the start sequence -/

/-- In a busy phase the results are cleared. -/
theorem resultsCleared_of_busy {s : State} (h : BlockInv s) (busy : s.phase ≠ .idle) :
    ResultsCleared s ∧ s.done = false := by
  obtain ⟨-, -, -, -, cleared | ⟨idle, -⟩⟩ := h
  · exact cleared
  · exact absurd idle busy

theorem blockInv_enterStartHigh {s : State} (h : BlockInv s) (low : s.phase = .startLow) : BlockInv s.enterStartHigh := by
  have cleared := resultsCleared_of_busy h (by simp [low])
  obtain ⟨legal, -, window, assembly, -⟩ := h
  have ⟨_, ⟨_, _, _, highPos, _⟩, _⟩ := legal
  rw [Nat.succ_le_iff] at highPos
  exact ⟨legal, by simp [TcountInv, highPos], by simpa [WindowInv, low] using window, assembly, .inl cleared⟩

/-- Sampling starts in window 0, where the start sequence left `win`. -/
theorem blockInv_enterSample {s : State} (h : BlockInv s) (high : s.phase = .startHigh) : BlockInv s.enterSample := by
  have cleared := resultsCleared_of_busy h (by simp [high])
  obtain ⟨legal, -, window, assembly, -⟩ := h
  obtain ⟨-, -, -, -, -, starting⟩ := window
  have win0 : s.win = 0#7 := (starting (.inr high)).1
  exact ⟨legal, by simp [TcountInv], windowInv_window0 legal rfl rfl rfl, by simpa [AssemblyInv, win0] using assembly,
    .inl cleared⟩

/-- A tick of the start sequence that does not end its phase; TCW bits hold the count. -/
theorem blockInv_setTcount {s : State} {ticks : Nat} (h : BlockInv s) (fits : ticks ≤ 2 ^ s.params.tcw)
    (bound : s.tcount < ticks) (notLast : s.tcount + 1 ≠ ticks)
    (phase : s.phase = .startLow ∧ ticks = s.params.start_low_ticks ∨
      s.phase = .startHigh ∧ ticks = s.params.start_high_ticks) :
    BlockInv (s.setTcount (s.tcount + 1)) := by
  obtain ⟨legal, -, window, assembly, results⟩ := h
  have untruncated : (s.tcount + 1) % 2 ^ s.params.tcw = s.tcount + 1 := Nat.mod_eq_of_lt (by omega)
  have stillBelow : s.tcount + 1 < ticks := by omega
  refine ⟨legal, ?_, window, assembly, results⟩
  obtain ⟨hp, rfl⟩ | ⟨hp, rfl⟩ := phase <;> simp [TcountInv, hp, untruncated, stillBelow]

/-! ### The writes of sampling -/

theorem blockInv_setSpin {s : State} (h : BlockInv s) (sample : s.phase = .sample)
    (notLast : s.spin.toNat + 1 ≠ s.params.max_spin) : BlockInv (s.setSpin (s.spin.toNat + 1)) := by
  obtain ⟨legal, tcount, ⟨winLe, winLt, spinLt, -, alternates, -⟩, assembly, results⟩ := h
  have ⟨_, _, _, _, _, spinFits, _⟩ := legal
  have untruncated : (BitVec.ofNat 8 (s.spin.toNat + 1)).toNat = s.spin.toNat + 1 :=
    Nat.mod_eq_of_lt (by omega)
  refine ⟨legal, tcount, ⟨winLe, winLt, ?_, ?_, alternates, by simp [sample]⟩, assembly, results⟩
  · rw [State.setSpin_spin, State.setSpin_params, untruncated]
    omega
  · intro
    rw [State.setSpin_spin, untruncated]
    omega

/-- An evaluation of the registers `nbits`, `shift` and `win`, in an acquisition whose results are cleared, publishes the
results of these registers. -/
theorem resultsOfLast_evaluate {s : State} (cleared : ResultsCleared s) (nbitsLe : s.nbits.toNat ≤ frameBits) :
    ResultsOfLast (evaluate s.nbits.toNat s.shift s.win.toNat s) := by
  obtain ⟨-, noFrame, noFrameValid, noReading, noHum, noTemp, -, -⟩ := cleared
  have incomplete_iff : s.nbits.toNat < frameBits ↔ s.nbits.toNat ≠ frameBits := by omega
  refine ⟨by simp, by simp, by simp, ?_, ?_, ?_, ?_, ?_⟩
  · by_cases full : s.nbits.toNat = frameBits <;> simp [incomplete_iff, full, noFrameValid]
  · by_cases full : s.nbits.toNat = frameBits <;> simp [incomplete_iff, full, noFrameValid, noFrame]
  all_goals
    by_cases success : outcomeOf s.params s.nbits.toNat s.shift s.win.toNat = .success <;>
      simp [success, noReading, noHum, noTemp]

/-- Completion keeps the invariant. `WindowInv s.complete` is the invariant of the windows of `s` without the bound
`win < MAX_WINDOWS` of a busy phase, which a normal end exceeds. -/
theorem blockInv_evaluate {s : State} (legal : s.params.Legal) (tcount : s.tcount = 0) (window : WindowInv s.complete)
    (assembly : AssemblyInv s) (cleared : ResultsCleared s) :
    BlockInv (evaluate s.nbits.toNat s.shift s.win.toNat s) := by
  have nbitsLe : s.nbits.toNat ≤ frameBits := assembly.1 ▸ Nat.min_le_left _ _
  refine ⟨by simpa using legal, by simp [TcountInv, tcount], by simpa [WindowInv] using window,
    by simpa [AssemblyInv] using assembly, .inr ⟨by simp, resultsOfLast_evaluate cleared nbitsLe⟩⟩

theorem eq_high_iff_of_ne {l m : Level} (h : l ≠ m) : l = .high ↔ ¬ m = .high := by
  cases l <;> cases m <;> simp at h ⊢

/-- A sample that ends window `win` opens window `win + 1` at the other level, and 7 bits hold its index. -/
theorem windowInv_complete_flipWrites {S : State} (h : BlockInv S) (busy : S.phase ≠ .idle) {line : Level}
    (flip : line ≠ S.prev) : WindowInv (flipWrites S line S.beginStep).complete := by
  obtain ⟨legal, -, ⟨-, winLt, -, -, alternates, -⟩, -, -⟩ := h
  have ⟨_, _, _, windowsFit, spinMin, _⟩ := legal
  have := winLt busy
  have untruncated : (BitVec.ofNat 7 (S.win.toNat + 1)).toNat = S.win.toNat + 1 := Nat.mod_eq_of_lt (by omega)
  have alternates' : line = .high ↔ (S.win.toNat + 1) % 2 = 0 := by
    rw [eq_high_iff_of_ne flip, alternates]
    omega
  refine ⟨?_, by simp, ?_, by simp, ?_, by simp⟩
  · simp only [State.complete_win, flipWrites_win, untruncated, State.complete_params, flipWrites_params,
      State.beginStep_params]
    omega
  · exact spinMin
  · simpa only [State.complete_prev, flipWrites_prev, State.complete_win, flipWrites_win, untruncated]

theorem flipAssembly_bits {S : State} (h : BlockInv S) :
    (flipAssembly S).2 = min frameBits (dataWindowsBelow S.params (S.win.toNat + 1)) := by
  obtain ⟨⟨-, -, -, -, -, -, ackEven, -⟩, -, ⟨-, -, -, -, alternates, -⟩, ⟨counted, -⟩, -⟩ := h
  exact assemble_counts ackEven alternates counted

/-- A flip counts the window it completes; 6 bits hold the count. -/
theorem flipWrites_nbits_toNat {S : State} (h : BlockInv S) (line : Level) (post : State) :
    (flipWrites S line post).nbits.toNat = (flipAssembly S).2 :=
  Nat.mod_eq_of_lt (flipAssembly_bits h ▸ (Nat.min_le_left frameBits _).trans_lt (by decide))

/-- In a busy phase, 7 bits hold the number of windows a flip completes. -/
theorem flipWrites_win_toNat {S : State} (h : BlockInv S) (busy : S.phase ≠ .idle) (line : Level) (post : State) :
    (flipWrites S line post).win.toNat = S.win.toNat + 1 := by
  obtain ⟨⟨-, -, -, windowsFit, -⟩, -, ⟨-, winLt, -⟩, -, -⟩ := h
  have := winLt busy
  exact Nat.mod_eq_of_lt (by omega)

theorem assemblyInv_flipWrites {S : State} (h : BlockInv S) (busy : S.phase ≠ .idle) (line : Level) :
    AssemblyInv (flipWrites S line S.beginStep) := by
  have ⟨_, _, _, ⟨_, shiftLt⟩, _⟩ := h
  refine ⟨?_, ?_⟩
  · rw [flipWrites_nbits_toNat h, flipWrites_win_toNat h busy, flipAssembly_bits h]
    rfl
  · rw [flipWrites_nbits_toNat h]
    exact assemble_shift_lt shiftLt

/-- A flip that leaves windows to complete stays in SAMPLE. -/
theorem blockInv_flipWrites {S : State} (h : BlockInv S) (sample : S.phase = .sample) {line : Level}
    (flip : line ≠ S.prev) (notLast : S.win.toNat + 1 ≠ S.params.max_windows) :
    BlockInv (flipWrites S line S.beginStep) := by
  have busy : S.phase ≠ .idle := by simp [sample]
  obtain ⟨winLe, -, spinLt, spinPos, alternates, -⟩ := windowInv_complete_flipWrites h busy flip
  refine ⟨h.1, h.2.1, ⟨winLe, ?_, spinLt, spinPos, alternates, by simp [sample]⟩, assemblyInv_flipWrites h busy line,
    .inl ⟨(resultsCleared_of_busy h busy).1, rfl⟩⟩
  intro
  exact lt_of_le_of_ne winLe (by rw [flipWrites_win_toNat h busy]; exact notLast)

/-- The MAX_SPIN-th equal sample evaluates what was assembled. -/
theorem blockInv_abort {S : State} (h : BlockInv S) (sample : S.phase = .sample) :
    BlockInv (evaluate S.nbits.toNat S.shift S.win.toNat S.beginStep) := by
  have cleared := resultsCleared_of_busy h (by simp [sample])
  obtain ⟨legal, ⟨-, -, -, tcount⟩, ⟨winLe, -, spinLt, spinPos, alternates, -⟩, assembly, -⟩ := h
  exact blockInv_evaluate (s := S.beginStep) legal (tcount sample)
    ⟨winLe, by simp, spinLt, spinPos, alternates, by simp⟩ assembly cleared.1

/-- The flip that completes window MAX_WINDOWS − 1 evaluates what it assembled. -/
theorem blockInv_normalEnd {S : State} (h : BlockInv S) (sample : S.phase = .sample) {line : Level}
    (flip : line ≠ S.prev) :
    BlockInv (evaluate (flipAssembly S).2 (flipAssembly S).1 (S.win.toNat + 1) (flipWrites S line S.beginStep)) := by
  have busy : S.phase ≠ .idle := by simp [sample]
  have ⟨legal, ⟨_, _, _, tcount⟩, _⟩ := h
  have evaluated := blockInv_evaluate (s := flipWrites S line S.beginStep) legal (tcount sample)
    (windowInv_complete_flipWrites h busy flip) (assemblyInv_flipWrites h busy line) (resultsCleared_of_busy h busy).1
  rwa [flipWrites_nbits_toNat h, flipWrites_win_toNat h busy] at evaluated

/-! ### The step -/

/-- The phase part keeps the invariant: the nine things a phase action can be (`phaseAction_cases`). -/
theorem blockInv_phaseAction {S : State} (h : BlockInv S) (line : Level) : BlockInv (phaseAction S line S.beginStep) := by
  have begun := blockInv_beginStep h
  have ⟨⟨_, ⟨_, _, lowFits, _, highFits, _⟩, _⟩, ⟨_, lowBound, highBound, _⟩, _⟩ := h
  obtain ⟨-, e⟩ | ⟨low, -, e⟩ | ⟨low, notLast, e⟩ | ⟨high, -, e⟩ | ⟨high, notLast, e⟩ | ⟨sample, -, e⟩ |
    ⟨sample, -, notLast, e⟩ | ⟨sample, ⟨flip, -⟩, e⟩ | ⟨sample, flip, notLast, e⟩ :=
    phaseAction_cases S line S.beginStep <;> rw [e]
  · exact begun
  · exact blockInv_enterStartHigh begun low
  · exact blockInv_setTcount begun lowFits (lowBound low) notLast (.inl ⟨low, rfl⟩)
  · exact blockInv_enterSample begun high
  · exact blockInv_setTcount begun highFits (highBound high) notLast (.inr ⟨high, rfl⟩)
  · exact blockInv_abort h sample
  · exact blockInv_setSpin begun sample notLast
  · exact blockInv_normalEnd h sample flip
  · exact blockInv_flipWrites h sample flip notLast

/-- In IDLE the step is its command part, in a busy phase its phase part with a `cfg_thr` (R39); both keep the invariant. -/
theorem blockInv_stepWrites {S : State} (h : BlockInv S) : BlockInv (stepWrites S) := by
  by_cases idle : S.phase = .idle
  · rw [stepWrites_idle idle]
    exact blockInv_commandWrites (blockInv_beginStep h) rfl _
  · rw [stepWrites_eq_phaseAction_beginStep idle]
    exact blockInv_setCfgThr (blockInv_phaseAction h _) _

/-- Settles O53: a step that answers a state is a reset step or runs a command, and both establish or keep the invariant. -/
theorem everyStepKeepsTheInvariant : Obligations.EveryStepKeepsTheInvariant := by
  intro S t h hstep
  obtain ⟨⟨legal, -⟩, rfl⟩ | ⟨-, rfl⟩ := step_next_cases hstep
  · exact blockInv_applyReset (s := S.consumeInputs) legal
  · exact blockInv_stepWrites h

/-- Settles O52: the state after reset is `applyReset` of some state of the same elaboration. -/
theorem resetSatisfiesTheInvariant : Obligations.ResetSatisfiesTheInvariant := by
  have defaultLegal : Params.default.Legal := by decide
  refine ⟨blockInv_applyReset (s := State.reset) defaultLegal, fun S t reset hstep => ?_⟩
  rw [step_resets reset] at hstep
  cases hstep
  exact blockInv_applyReset (s := S.consumeInputs) reset.1

end Sys2Proof.Machine
end

section
/-! The two parts of a step and what each reads and writes (O8, O14, O15). -/

namespace Sys2Proof.Machine

/-- A command that is no ACQUIRE can write `cfg_thr` only, in every phase (40_host_commands.md R100 to R103). -/
theorem commandWrites_of_ne_acquire {i : Instr} (noAcquire : ∀ a, i ≠ .acquire a) (s : State) :
    ∃ v, commandWrites i s = s.setCfgThr v := by
  obtain e | ⟨v, -, e⟩ | ⟨a, isAcquire, -⟩ := commandWrites_cases i s
  · exact ⟨s.cfg_thr, e⟩
  · exact ⟨v, e⟩
  · exact absurd isAcquire (noAcquire a)

/-- All a step that runs a command can be: an accepted ACQUIRE, a wait in IDLE, or the phase action of a busy phase. -/
theorem stepWrites_cases {S : State} (runs : RunsCommand S) :
    (S.phase = .idle ∧ presentsAcquire S = true ∧ stepWrites S = S.beginStep.startAcquisition) ∨
    (S.phase = .idle ∧ presentsAcquire S = false ∧ ∃ v, stepWrites S = S.beginStep.setCfgThr v) ∨
    (S.phase ≠ .idle ∧ ∃ v, stepWrites S = (phaseAction S (currentLine S) S.beginStep).setCfgThr v) := by
  by_cases idle : S.phase = .idle
  · cases acquire : presentsAcquire S with
    | true => exact .inl ⟨idle, rfl, stepWrites_accepts ⟨runs, acquire, idle⟩⟩
    | false =>
      have noAcquire : ∀ a, currentCommand S ≠ .acquire a := fun a h =>
        Bool.false_ne_true (acquire.symm.trans (presentsAcquire_iff.2 ⟨a, h⟩))
      exact .inr (.inl ⟨idle, rfl, stepWrites_idle idle ▸ commandWrites_of_ne_acquire noAcquire _⟩)
  · exact .inr (.inr ⟨idle, _, stepWrites_eq_phaseAction_beginStep idle⟩)

/-- Settles O14: in a busy phase the command writes `cfg_thr` alone, which no phase action reads. -/
theorem commandAndPhaseWriteDisjointFields : Obligations.CommandAndPhaseWriteDisjointFields := by
  intro S t i line h
  rw [exec_eq] at h
  cases h
  refine ⟨fun idle => phaseAction_idle _ _ idle, fun busy => ?_⟩
  calc phaseAction S line (commandWrites i S.beginStep)
      = phaseAction S line (S.beginStep.setCfgThr (commandWrites i S.beginStep).cfg_thr) :=
        congrArg (phaseAction S line) (commandWrites_busy busy)
    _ = (phaseAction S line S.beginStep).setCfgThr (commandWrites i S.beginStep).cfg_thr := phaseAction_setCfgThr _ _ _ _

theorem commandWrites_setLineIn (i : Instr) (s : State) (ls : List Level) :
    commandWrites i { s with line_in := ls } = { commandWrites i s with line_in := ls } := by
  cases i with
  | nop => rfl
  | setThreshold => rfl
  | reserved11 => rfl
  | acquire => simp only [commandWrites]; split <;> rfl

/-- Outside SAMPLE a phase action reads neither the sample nor the queue it comes from. -/
theorem phaseAction_setLineIn {S : State} (noSample : S.phase ≠ .sample) (line line' : Level) (post : State)
    (ls ls' : List Level) :
    phaseAction { S with line_in := ls } line' { post with line_in := ls' } =
      { phaseAction S line post with line_in := ls' } := by
  cases h : S.phase with
  | idle => simp only [phaseAction, h]
  | startLow => simp only [phaseAction, h, startLowStep]; split <;> rfl
  | startHigh => simp only [phaseAction, h, startHighStep]; split <;> rfl
  | sample => exact absurd h noSample

theorem stepWrites_setLineIn {S : State} (noSample : S.phase ≠ .sample) (ls : List Level) :
    stepWrites { S with line_in := ls } = { stepWrites S with line_in := ls.tail } := by
  have command : commandWrites (currentCommand S) { S.beginStep with line_in := ls.tail } =
      { commandWrites (currentCommand S) S.beginStep with line_in := ls.tail } := commandWrites_setLineIn _ _ _
  calc stepWrites { S with line_in := ls }
      = phaseAction { S with line_in := ls } (currentLine { S with line_in := ls })
          (commandWrites (currentCommand S) { S.beginStep with line_in := ls.tail }) := rfl
    _ = { stepWrites S with line_in := ls.tail } := by rw [command]; exact phaseAction_setLineIn noSample _ _ _ _ _

/-- Settles O15: neither a reset step nor, outside SAMPLE, a step that runs a command reads the wire. -/
theorem lineIsIgnoredOutsideSample : Obligations.LineIsIgnoredOutsideSample := by
  intro S ls legal noSample
  cases rst : (currentHost S).rst with
  | true => exact ⟨_, step_resets ⟨legal, rst⟩, step_resets (S := { S with line_in := ls }) ⟨legal, rst⟩⟩
  | false =>
    refine ⟨_, step_runs ⟨legal, rst⟩, ?_⟩
    rw [step_runs (S := { S with line_in := ls }) ⟨legal, rst⟩, stepWrites_setLineIn noSample]

/-- Settles O8: the state the command runs in is `S.beginStep`, and every command answers `commandWrites`. -/
theorem stepRunsTheDecodedCommand : Obligations.StepRunsTheDecodedCommand := by
  intro S t h hs i legal queue noReset decoded answered
  have host : currentHost S = h := by simp only [currentHost, queue]
  have command : currentCommand S = i := by rw [currentCommand, host, decoded]
  have begun : S.beginStep = { S with host_in := hs, line_in := S.line_in.tail, tick := S.tick + 1, done := false } := by
    simp only [State.beginStep, State.consumeInputs, queue, List.tail_cons]
  rw [← begun, exec_eq] at answered
  cases answered
  rw [step_runs ⟨legal, host ▸ noReset⟩, stepWrites, command]
  rfl

end Sys2Proof.Machine
end

section
/-! What a step writes to `phase`, `cfg_thr`, `thr_act` and `done` (O16, O17, O18, O19). -/

namespace Sys2Proof.Machine

theorem not_completes_of_equal {S : State} {line : Level} (equal : line = S.prev)
    (notLast : S.spin.toNat + 1 ≠ S.params.max_spin) : ¬ Completes S line := by
  rintro ⟨-, ⟨-, last⟩ | ⟨flip, -⟩⟩
  · exact notLast last
  · exact flip equal

theorem not_completes_of_flip {S : State} {line : Level} (flip : line ≠ S.prev)
    (notLast : S.win.toNat + 1 ≠ S.params.max_windows) : ¬ Completes S line := by
  rintro ⟨-, ⟨equal, -⟩ | ⟨-, last⟩⟩
  · exact flip equal
  · exact notLast last

/-- Settles O16: each of the nine things a phase action can be is one of the transitions, with its condition. -/
theorem phaseTransitions : Obligations.PhaseTransitions := by
  intro S t hstep
  obtain ⟨reset, rfl⟩ | ⟨runs, rfl⟩ := step_next_cases hstep
  · exact .inl ⟨reset, rfl⟩
  refine .inr ⟨runs, ?_⟩
  obtain ⟨idle, acquire, e⟩ | ⟨idle, noAcquire, v, e⟩ | ⟨busy, v, e⟩ := stepWrites_cases runs
  · exact .inl ⟨idle, by simp [e, acquire]⟩
  · exact .inl ⟨idle, by simp [e, noAcquire, idle]⟩
  rw [e, State.setCfgThr_phase]
  obtain ⟨idle, -⟩ | ⟨low, last, e⟩ | ⟨low, notLast, e⟩ | ⟨high, last, e⟩ | ⟨high, notLast, e⟩ | ⟨sample, aborts, e⟩ |
    ⟨sample, equal, notLast, e⟩ | ⟨sample, ends, e⟩ | ⟨sample, flip, notLast, e⟩ :=
    phaseAction_cases S (currentLine S) S.beginStep
  · exact absurd idle busy
  · exact .inr (.inl ⟨low, by rw [e, if_pos last]; rfl⟩)
  · exact .inr (.inl ⟨low, by rw [e, if_neg notLast]; exact low⟩)
  · exact .inr (.inr (.inl ⟨high, by rw [e, if_pos last]; rfl⟩))
  · exact .inr (.inr (.inl ⟨high, by rw [e, if_neg notLast]; exact high⟩))
  · exact .inr (.inr (.inr ⟨sample, by rw [e, if_pos ⟨sample, .inl aborts⟩, evaluate_phase]⟩))
  · exact .inr (.inr (.inr ⟨sample, by rw [e, if_neg (not_completes_of_equal equal notLast)]; exact sample⟩))
  · exact .inr (.inr (.inr ⟨sample, by rw [e, if_pos ⟨sample, .inr ends⟩, evaluate_phase]⟩))
  · exact .inr (.inr (.inr ⟨sample, by rw [e, if_neg (not_completes_of_flip flip notLast)]; exact sample⟩))

/-- Settles O17: no phase action writes `cfg_thr`, and of the commands SET_THRESHOLD alone does. -/
theorem cfgThrIsWrittenBySetThresholdAndReset : Obligations.CfgThrIsWrittenBySetThresholdAndReset := by
  intro S t hstep
  refine ⟨rfl, ?_⟩
  obtain ⟨⟨-, rst⟩, rfl⟩ | ⟨⟨-, noReset⟩, rfl⟩ := step_next_cases hstep
  · rw [if_pos rst]
    rfl
  · rw [if_neg (by simp [noReset]), stepWrites, phaseAction_cfg_thr]
    cases currentCommand S with
    | nop => rfl
    | setThreshold => rfl
    | reserved11 => rfl
    | acquire => simp only [commandWrites]; split <;> rfl

/-- Settles O18: no phase action writes `thr_act`, and of the commands an accepted ACQUIRE alone does. -/
theorem thrActIsWrittenByAcceptedAcquireAndReset : Obligations.ThrActIsWrittenByAcceptedAcquireAndReset := by
  intro S t hstep
  obtain ⟨⟨-, rst⟩, rfl⟩ | ⟨runs, rfl⟩ := step_next_cases hstep
  · rw [if_pos rst]
    rfl
  · rw [if_neg (by simp [runs.2])]
    obtain ⟨idle, acquire, e⟩ | ⟨-, noAcquire, v, e⟩ | ⟨busy, v, e⟩ := stepWrites_cases runs
    · simp [e, idle, acquire]
    · simp [e, noAcquire]
    · simp [e, busy]

/-- A phase action sets `done` exactly if the sample completes the acquisition, and clears it never. -/
theorem phaseAction_done_iff (S : State) (line : Level) (post : State) :
    (phaseAction S line post).done = true ↔ Completes S line ∨ post.done = true := by
  obtain ⟨idle, e⟩ | ⟨low, -, e⟩ | ⟨low, -, e⟩ | ⟨high, -, e⟩ | ⟨high, -, e⟩ | ⟨sample, aborts, e⟩ |
    ⟨sample, equal, notLast, e⟩ | ⟨sample, ends, e⟩ | ⟨sample, flip, notLast, e⟩ := phaseAction_cases S line post <;> rw [e]
  · simp [Completes, idle]
  · simp [Completes, low]
  · simp [Completes, low]
  · simp [Completes, high]
  · simp [Completes, high]
  · exact iff_of_true (evaluate_done ..) (.inl ⟨sample, .inl aborts⟩)
  · simp [not_completes_of_equal equal notLast]
  · exact iff_of_true (evaluate_done ..) (.inl ⟨sample, .inr ends⟩)
  · simp [not_completes_of_flip flip notLast]

/-- Settles O19: the command part leaves `done` cleared, and the phase part sets it in a completing step alone. -/
theorem doneExactlyAfterACompletingStep : Obligations.DoneExactlyAfterACompletingStep := by
  intro S t hstep
  obtain ⟨⟨-, rst⟩, rfl⟩ | ⟨runs, rfl⟩ := step_next_cases hstep
  · exact iff_of_false Bool.false_ne_true fun h => Bool.false_ne_true (h.1.2.symm.trans rst)
  · rw [stepWrites, phaseAction_done_iff, commandWrites_done]
    exact ⟨fun h => ⟨runs, h.resolve_right Bool.false_ne_true⟩, fun h => .inl h.2⟩

end Sys2Proof.Machine
end

section
/-! Reset values and outputs (O11, O20, O21). -/

namespace Sys2Proof.Machine

/-- Settles O11: `State.reset` and every state after a reset step are `applyReset` of some state. -/
theorem resetValues : Obligations.ResetValues := by
  refine ⟨fun s isReset => ?_, rfl⟩
  obtain ⟨u, rfl⟩ : ∃ u : State, s = u.applyReset := by
    obtain rfl | ⟨S, reset, hstep⟩ := isReset
    · exact ⟨State.reset, rfl⟩
    · rw [step_resets reset] at hstep
      cases hstep
      exact ⟨S.consumeInputs, rfl⟩
  simp [busy, lineOe, lineOut]

/-- Settles O20, phase by phase. -/
theorem outputsFollowThePhase : Obligations.OutputsFollowThePhase := by
  intro s
  cases h : s.phase <;> simp [busy, lineOe, lineOut, h]

/-- Settles O21: each port is the register `outputs` copies. -/
theorem portsCopyRegisters : Obligations.PortsCopyRegisters :=
  fun _ => ⟨rfl, rfl, rfl, rfl, rfl, rfl, rfl, rfl, rfl, rfl⟩

end Sys2Proof.Machine
end

section
/-! Consecutive ACQUIREs: the first one accepted leaves IDLE, so the next step ignores a second one (O28). -/

namespace Sys2Proof.Machine

/-- 40_host_commands.md R101: the state after an accepted ACQUIRE is in START_LOW. -/
theorem phase_startLow_of_accepts {S t : State} (accepts : AcceptsAcquire S) (hstep : step S = .next t) :
    t.phase = .startLow := by
  rw [step_runs accepts.1, stepWrites_accepts accepts] at hstep
  cases hstep
  exact State.startAcquisition_phase ..

/-- Settles O28: the first ACQUIRE leaves the block in START_LOW, and an ACQUIRE is accepted in IDLE alone. -/
theorem consecutiveAcquiresAreNotBothAccepted : Obligations.ConsecutiveAcquiresAreNotBothAccepted := by
  rintro S t accepts hstep ⟨-, -, idle⟩
  have startLow : t.phase = .startLow := phase_startLow_of_accepts accepts hstep
  rw [startLow] at idle
  cases idle

end Sys2Proof.Machine
end

section
/-! Decoder, encoder and command table: the fields of a word determine its command and its row (O1, O2, O3). -/

namespace Sys2Proof

@[simp] theorem decodeFields_selector (c : Selector) (a : Byte) : (decodeFields c a).selector = c := by
  unfold decodeFields
  split_ifs with isNop isAcquire isSetThreshold
  · exact isNop.symm
  · exact isAcquire.symm
  · exact isSetThreshold.symm
  · simp only [Instr.selector]
    bv_omega

@[simp] theorem decodeFields_arg (c : Selector) (a : Byte) : (decodeFields c a).arg = a := by
  unfold decodeFields
  split_ifs <;> rfl

theorem decodeFields_selector_arg (i : Instr) : decodeFields i.selector i.arg = i := by
  cases i <;> rfl

theorem decode_encode (i : Instr) : decode (encode i) = i := by
  rw [decode, encode, selectorOf_commandWord, argOf_commandWord, decodeFields_selector_arg]

theorem encode_decode (w : CmdWord) : encode (decode w) = w := by
  rw [encode, decode, decodeFields_selector, decodeFields_arg, commandWord_fields]

/-- Settles O1: a word is its two fields, and so is a command. -/
theorem decodeAndEncodeAreInverse : Obligations.DecodeAndEncodeAreInverse :=
  ⟨decode_encode, encode_decode⟩

/-! ### The table -/

theorem row_mem_opcodeTable (i : Instr) : i.row ∈ opcodeTable := by
  cases i <;> simp [Instr.row, opcodeTable]

theorem selectorOf_row (i : Instr) : selectorOf i.row.word_match = i.selector := by
  cases i <;> simp only [Instr.row, Instr.selector] <;> decide

theorem row_fits_iff (i : Instr) (w : CmdWord) : i.row.fits w = true ↔ selectorOf w = i.selector := by
  have masks : ∀ r ∈ opcodeTable, r.mask = 0x300#10 := by decide
  have lowBytes : ∀ r ∈ opcodeTable, r.word_match.toNat % 256 = 0 := by decide
  rw [fits_iff_selector w (masks _ (row_mem_opcodeTable i)) (lowBytes _ (row_mem_opcodeTable i)), selectorOf_row]

/-- The row of a command depends on its selector alone. -/
theorem row_decodeFields_selector (i : Instr) (a : Byte) : (decodeFields i.selector a).row = i.row := by
  cases i <;> rfl

theorem row_eq_row_iff (i j : Instr) : i.row = j.row ↔ i.selector = j.selector := by
  constructor
  · intro h
    rw [← selectorOf_row i, h, selectorOf_row]
  · intro h
    rw [← row_decodeFields_selector i 0#8, h, row_decodeFields_selector]

theorem exists_row_eq {r : OpcodeRow} (h : r ∈ opcodeTable) : ∃ i : Instr, i.row = r := by
  simp only [opcodeTable, List.mem_cons, List.not_mem_nil, or_false] at h
  obtain rfl | rfl | rfl | rfl := h
  · exact ⟨.nop 0#8, rfl⟩
  · exact ⟨.acquire 0#8, rfl⟩
  · exact ⟨.setThreshold 0#8, rfl⟩
  · exact ⟨.reserved11 0#8, rfl⟩

/-- Settles O2: a row tests the selector alone, and each selector has one row. -/
theorem everyWordFitsExactlyOneRow : Obligations.EveryWordFitsExactlyOneRow := by
  intro w
  refine ⟨fun r hr => ?_, row_mem_opcodeTable _⟩
  obtain ⟨i, rfl⟩ := exists_row_eq hr
  rw [row_fits_iff, row_eq_row_iff, decode, decodeFields_selector, eq_comm]

/-- Settles O3: seven closed words. -/
theorem writtenOutWordsDecode : Obligations.WrittenOutWordsDecode := by
  unfold Obligations.WrittenOutWordsDecode
  decide

end Sys2Proof
end

section
/-! Codes of the outputs, the unused `cmd_arg` and the lines of a host program (O5, O6, O7). -/

namespace Sys2Proof.Machine

/-- 30_encoding.md R78: the codes 110 and 111 stand for no outcome. -/
theorem outcome_code_lt (o : DecodeOutcome) : o.code.toNat < 6 := by
  cases o <;> decide

/-- Settles O5: the codes are those of the tables, and every outcome's code is below 110. -/
theorem phaseAndOutcomeCodes : Obligations.PhaseAndOutcomeCodes := by
  refine ⟨rfl, rfl, rfl, rfl, rfl, rfl, rfl, rfl, rfl, rfl, fun s => ?_⟩
  have codeLt : (outputs s).outcome.toNat < 6 := outcome_code_lt s.outcome
  constructor <;> intro h <;> simp [h] at codeLt

/-- Settles O6: `commandWrites` reads the argument of SET_THRESHOLD alone. -/
theorem commandArgumentIsReadBySetThresholdOnly : Obligations.CommandArgumentIsReadBySetThresholdOnly := by
  intro a b s
  simp only [exec_eq]
  exact ⟨rfl, rfl, rfl, rfl⟩

theorem expand_setThreshold_of_le {n : Nat} (fits : n ≤ 255) (bound : Nat) (s : State) :
    (HostLine.setThreshold n).expand bound s = .ok [HostInput.ofCommand (.setThreshold (BitVec.ofNat 8 n))] :=
  if_pos fits

theorem expand_setThreshold_of_lt {n : Nat} (tooLarge : 255 < n) (bound : Nat) (s : State) :
    (HostLine.setThreshold n).expand bound s = .error (.immediateOutOfRange n) :=
  if_neg (Nat.not_le.mpr tooLarge)

/-- Settles O7: but for SET_THRESHOLD, which the range of its immediate splits, a line's expansion is fixed. -/
theorem hostLinesExpand : Obligations.HostLinesExpand := fun bound s _ =>
  ⟨rfl, rfl, rfl, fun fits => expand_setThreshold_of_le fits bound s,
    fun tooLarge => expand_setThreshold_of_lt tooLarge bound s, rfl⟩

end Sys2Proof.Machine
end

section
/-! The order in which the bits of a frame arrive (O45). -/

namespace Sys2Proof.Machine

theorem getLsbD_shiftIn_zero (f : FrameWord) (b : Bool) : (shiftIn f b).getLsbD 0 = b := by
  cases b <;> simp [shiftIn]

theorem getLsbD_shiftIn_succ (f : FrameWord) (b : Bool) {i : Nat} (h : i + 1 < 40) :
    (shiftIn f b).getLsbD (i + 1) = f.getLsbD i := by
  cases b <;> simp [shiftIn, h, BitVec.getLsbD_eq_getElem (Nat.lt_of_succ_lt h)]

/-- Bits shifted in move what was there up by their number. -/
theorem getLsbD_shiftInAll_add_length (bits : List Bool) (f : FrameWord) {i : Nat} (h : i + bits.length < 40) :
    (shiftInAll f bits).getLsbD (i + bits.length) = f.getLsbD i := by
  induction bits generalizing f i with
  | nil => rfl
  | cons b bits ih =>
    rw [List.length_cons] at h ⊢
    calc (shiftInAll f (b :: bits)).getLsbD (i + (bits.length + 1))
        = (shiftInAll (shiftIn f b) bits).getLsbD (i + 1 + bits.length) := by
          rw [Nat.add_assoc, Nat.add_comm 1]; rfl
      _ = (shiftIn f b).getLsbD (i + 1) := ih _ (by omega)
      _ = f.getLsbD i := getLsbD_shiftIn_succ f b (by omega)

/-- The bit `n` of a run of bits ends below the bits that follow it. -/
theorem getLsbD_shiftInAll (bits : List Bool) (f : FrameWord) {n : Nat} (fits : bits.length ≤ 40)
    (h : n < bits.length) : (shiftInAll f bits).getLsbD (bits.length - 1 - n) = bits.getD n false := by
  induction bits generalizing f n with
  | nil => exact absurd h (Nat.not_lt_zero n)
  | cons b bits ih =>
    rw [List.length_cons] at fits h
    cases n with
    | zero =>
      have below := getLsbD_shiftInAll_add_length bits (shiftIn f b) (i := 0) (by omega)
      rw [getLsbD_shiftIn_zero, Nat.zero_add] at below
      exact below
    | succ n =>
      have position : bits.length + 1 - 1 - (n + 1) = bits.length - 1 - n := by omega
      rw [List.length_cons, position]
      exact ih _ (by omega) (by omega)

/-- Byte `k` of a frame, `frame[39 − 8k : 32 − 8k]`, counted from its most significant bit (30_encoding.md R80). -/
theorem getLsbD_frameByte (f : FrameWord) {k j : Nat} (hk : k ≤ 4) (hj : j < 8) :
    (f.extractLsb' (32 - 8 * k) 8).getLsbD (7 - j) = f.getLsbD (39 - (8 * k + j)) := by
  have inByte : 7 - j < 8 := by omega
  have position : 32 - 8 * k + (7 - j) = 39 - (8 * k + j) := by omega
  rw [BitVec.getLsbD_extractLsb', position, decide_eq_true inByte, Bool.true_and]

/-- Settles O45: the bit `n` of 40 lies below the 39 − n bits after it, and a byte is a run of eight positions. -/
theorem frameBitsArriveMostSignificantFirst : Obligations.FrameBitsArriveMostSignificantFirst := by
  intro bits length f
  have bitAt : ∀ n, n < 40 → f.getLsbD (39 - n) = bits.getD n false := fun n hn => by
    have bit := getLsbD_shiftInAll bits 0#40 length.le (hn.trans_eq length.symm)
    rwa [length] at bit
  have bitOfByte : ∀ k j, k ≤ 4 → j < 8 →
      (f.extractLsb' (32 - 8 * k) 8).getLsbD (7 - j) = bits.getD (8 * k + j) false := fun k j hk hj =>
    (getLsbD_frameByte f hk hj).trans (bitAt _ (by omega))
  refine ⟨bitAt, fun j hj => ⟨?_, ?_, ?_, ?_, ?_⟩⟩
  · exact (bitOfByte 0 j (by decide) hj).trans (by rw [Nat.mul_zero, Nat.zero_add])
  · exact bitOfByte 1 j (by decide) hj
  · exact bitOfByte 2 j (by decide) hj
  · exact bitOfByte 3 j (by decide) hj
  · exact bitOfByte 4 j (by decide) hj

end Sys2Proof.Machine
end

section
/-! The bound on an acquisition: a number of steps that every busy step lowers (42_edge_sampling.md R145), and WAITDONE's
search, which it bounds (O38). -/

namespace Sys2Proof.Machine

/-! ### The steps left -/

/-- The most steps a busy phase leaves to the completing one, that step included. In SAMPLE each of the MAX_WINDOWS − win
windows left takes at most MAX_SPIN − 1 samples, and `spin` of the current one are taken. -/
def stepsLeft (S : State) : Nat :=
  match S.phase with
  | .idle => 0
  | .startLow => S.params.start_low_ticks - S.tcount + S.params.start_high_ticks + maxSampleSteps S.params
  | .startHigh => S.params.start_high_ticks - S.tcount + maxSampleSteps S.params
  | .sample => (S.params.max_windows - S.win.toNat) * (S.params.max_spin - 1) + 1 - S.spin.toNat

theorem stepsLeft_startLow {S : State} (h : S.phase = .startLow) :
    stepsLeft S = S.params.start_low_ticks - S.tcount + S.params.start_high_ticks + maxSampleSteps S.params := by
  simp only [stepsLeft, h]

theorem stepsLeft_startHigh {S : State} (h : S.phase = .startHigh) :
    stepsLeft S = S.params.start_high_ticks - S.tcount + maxSampleSteps S.params := by
  simp only [stepsLeft, h]

theorem stepsLeft_sample {S : State} (h : S.phase = .sample) :
    stepsLeft S = (S.params.max_windows - S.win.toNat) * (S.params.max_spin - 1) + 1 - S.spin.toNat := by
  simp only [stepsLeft, h]

theorem stepsLeft_startAcquisition (s : State) : stepsLeft s.startAcquisition = maxAcquisitionSteps s.params := rfl

theorem stepsLeft_enterSample (s : State) : stepsLeft s.enterSample = maxSampleSteps s.params := rfl

/-- The current window's share of the steps left, apart from that of the windows after it. -/
theorem stepsLeft_sample_eq_add {S : State} (sample : S.phase = .sample) (winLt : S.win.toNat < S.params.max_windows) :
    stepsLeft S =
      (S.params.max_windows - (S.win.toNat + 1)) * (S.params.max_spin - 1) + (S.params.max_spin - 1) + 1 - S.spin.toNat := by
  have windowsLeft : S.params.max_windows - S.win.toNat = S.params.max_windows - (S.win.toNat + 1) + 1 := by omega
  rw [stepsLeft_sample sample, windowsLeft, Nat.succ_mul]

/-- A busy phase has its completing step before it. -/
theorem stepsLeft_pos {S : State} (h : BlockInv S) (busy : S.phase ≠ .idle) : 0 < stepsLeft S := by
  cases phase : S.phase with
  | idle => exact absurd phase busy
  | startLow => rw [stepsLeft_startLow phase]; exact Nat.succ_pos _
  | startHigh => rw [stepsLeft_startHigh phase]; exact Nat.succ_pos _
  | sample =>
    obtain ⟨-, -, ⟨-, winLt, spinLt, -⟩, -⟩ := h
    rw [stepsLeft_sample_eq_add phase (winLt busy)]
    omega

/-- The acquisition ends, or goes on with fewer steps left. -/
def EndsOrLowers (S t : State) : Prop := t.done = true ∨ (t.phase ≠ .idle ∧ stepsLeft t < stepsLeft S)

theorem stepsLeft_setSpin_lt {S : State} (h : BlockInv S) (sample : S.phase = .sample) :
    stepsLeft (S.beginStep.setSpin (S.spin.toNat + 1)) < stepsLeft S := by
  obtain ⟨⟨-, -, -, -, -, spinFits, -⟩, -, ⟨-, winLt, spinLt, -⟩, -⟩ := h
  have winLt := winLt (by simp [sample])
  have untruncated : (BitVec.ofNat 8 (S.spin.toNat + 1)).toNat = S.spin.toNat + 1 := Nat.mod_eq_of_lt (by omega)
  rw [stepsLeft_sample_eq_add (by exact sample) (by exact winLt), stepsLeft_sample_eq_add sample winLt]
  simp only [State.setSpin_params, State.setSpin_win, State.setSpin_spin, untruncated, State.beginStep_params,
    State.beginStep_win]
  omega

/-- A window holds at most MAX_SPIN − 1 samples, and the flip sample is the first of the next one. -/
theorem stepsLeft_flipWrites_lt {S : State} (h : BlockInv S) (sample : S.phase = .sample) (line : Level) :
    stepsLeft (flipWrites S line S.beginStep) < stepsLeft S := by
  have busy : S.phase ≠ .idle := by simp [sample]
  have winNext := flipWrites_win_toNat h busy line S.beginStep
  obtain ⟨-, -, ⟨-, winLt, spinLt, -⟩, -⟩ := h
  rw [stepsLeft_sample (by exact sample), winNext, stepsLeft_sample_eq_add sample (winLt busy)]
  simp only [flipWrites_params, flipWrites_spin, State.beginStep_params, BitVec.toNat_ofNat]
  omega

theorem stepsLeft_enterStartHigh_lt {S : State} (h : BlockInv S) (low : S.phase = .startLow) :
    stepsLeft S.beginStep.enterStartHigh < stepsLeft S := by
  obtain ⟨-, ⟨-, lowBound, -⟩, -⟩ := h
  have := lowBound low
  rw [stepsLeft_startLow low, stepsLeft_startHigh (by rfl)]
  simp only [State.enterStartHigh_params, State.enterStartHigh_tcount, State.beginStep_params]
  omega

theorem stepsLeft_enterSample_lt {S : State} (h : BlockInv S) (high : S.phase = .startHigh) :
    stepsLeft S.beginStep.enterSample < stepsLeft S := by
  obtain ⟨-, ⟨-, -, highBound, -⟩, -⟩ := h
  have := highBound high
  rw [stepsLeft_startHigh high, stepsLeft_enterSample, State.beginStep_params]
  omega

/-- TCW bits hold the count of a tick that is not the last of its phase. -/
theorem setTcount_tcount_of_lt {s : State} {n : Nat} (h : n < 2 ^ s.params.tcw) : (s.setTcount n).tcount = n :=
  Nat.mod_eq_of_lt h

theorem stepsLeft_setTcount_lt {S : State} {ticks : Nat} (fits : ticks ≤ 2 ^ S.params.tcw) (bound : S.tcount < ticks)
    (notLast : S.tcount + 1 ≠ ticks)
    (phase : S.phase = .startLow ∧ ticks = S.params.start_low_ticks ∨
      S.phase = .startHigh ∧ ticks = S.params.start_high_ticks) :
    stepsLeft (S.beginStep.setTcount (S.tcount + 1)) < stepsLeft S := by
  have counted : (S.beginStep.setTcount (S.tcount + 1)).tcount = S.tcount + 1 :=
    setTcount_tcount_of_lt (by rw [State.beginStep_params]; omega)
  obtain ⟨low, rfl⟩ | ⟨high, rfl⟩ := phase
  · rw [stepsLeft_startLow (by exact low), stepsLeft_startLow low, counted, State.setTcount_params, State.beginStep_params]
    omega
  · rw [stepsLeft_startHigh (by exact high), stepsLeft_startHigh high, counted, State.setTcount_params,
      State.beginStep_params]
    omega

theorem endsOrLowers_phaseAction {S : State} (h : BlockInv S) (busy : S.phase ≠ .idle) (line : Level) :
    EndsOrLowers S (phaseAction S line S.beginStep) := by
  have ⟨⟨_, ⟨_, _, lowFits, _, highFits, _⟩, _⟩, ⟨_, lowBound, highBound, _⟩, _⟩ := h
  obtain ⟨idle, -⟩ | ⟨low, -, e⟩ | ⟨low, notLast, e⟩ | ⟨high, -, e⟩ | ⟨high, notLast, e⟩ | ⟨-, -, e⟩ |
    ⟨sample, -, -, e⟩ | ⟨-, -, e⟩ | ⟨sample, -, -, e⟩ := phaseAction_cases S line S.beginStep
  · exact absurd idle busy
  all_goals rw [e]
  · exact .inr ⟨by simp, stepsLeft_enterStartHigh_lt h low⟩
  · exact .inr ⟨busy, stepsLeft_setTcount_lt lowFits (lowBound low) notLast (.inl ⟨low, rfl⟩)⟩
  · exact .inr ⟨by simp, stepsLeft_enterSample_lt h high⟩
  · exact .inr ⟨busy, stepsLeft_setTcount_lt highFits (highBound high) notLast (.inr ⟨high, rfl⟩)⟩
  · exact .inl (evaluate_done ..)
  · exact .inr ⟨busy, stepsLeft_setSpin_lt h sample⟩
  · exact .inl (evaluate_done ..)
  · exact .inr ⟨busy, stepsLeft_flipWrites_lt h sample line⟩

/-- 42_edge_sampling.md R145: whatever the wire does and whatever command the host presents, a busy step ends the
acquisition or lowers the steps left. -/
theorem endsOrLowers_stepWrites {S : State} (h : BlockInv S) (busy : S.phase ≠ .idle) : EndsOrLowers S (stepWrites S) := by
  rw [stepWrites_eq_phaseAction_beginStep busy]
  exact endsOrLowers_phaseAction h busy _

/-! ### WAITDONE -/

/-- The state whose next step takes a NOP, before the inputs already queued. -/
def State.withNop (s : State) : State := { s with host_in := HostInput.nop :: s.host_in }

theorem stepWith_nop {s : State} (legal : s.params.Legal) : stepWith HostInput.nop s = .next (stepWrites s.withNop) :=
  step_runs (S := s.withNop) ⟨legal, rfl⟩

/-- The invariant does not speak of the host's queue. -/
theorem blockInv_withNop {s : State} (h : BlockInv s) : BlockInv s.withNop := h

theorem runInputs_cons {i : HostInput} {is : List HostInput} {s t : State} (h : stepWith i s = .next t) :
    runInputs (i :: is) s = runInputs is t := by
  simp only [runInputs, h]

theorem waitDoneLength_succ {s t : State} (h : stepWith HostInput.nop s = .next t) (bound : Nat) :
    waitDoneLength (bound + 1) s = if t.done then some 1 else (waitDoneLength bound t).map (· + 1) := by
  simp only [waitDoneLength, h]

/-- From a busy state with at most `bound` steps left, WAITDONE's search finds a number of NOP steps that end with
`done` = 1. -/
theorem waitDoneLength_of_stepsLeft_le {bound : Nat} {s : State} (h : BlockInv s) (busy : s.phase ≠ .idle)
    (fewLeft : stepsLeft s ≤ bound) :
    ∃ n, waitDoneLength bound s = some n ∧ n ≤ bound ∧
      ∃ u, runInputs (List.replicate n HostInput.nop) s = .next u ∧ u.done = true := by
  induction bound generalizing s with
  | zero => exact absurd fewLeft (Nat.not_le.mpr (stepsLeft_pos h busy))
  | succ bound ih =>
    have hstep := stepWith_nop h.1
    rw [waitDoneLength_succ hstep]
    by_cases ended : (stepWrites s.withNop).done = true
    · exact ⟨1, if_pos ended, Nat.succ_pos bound, _, runInputs_cons hstep, ended⟩
    · have h := blockInv_withNop h
      obtain ⟨stillBusy, lower⟩ := (endsOrLowers_stepWrites h busy).resolve_left ended
      obtain ⟨n, found, le, u, run, isDone⟩ :=
        ih (blockInv_stepWrites h) stillBusy (Nat.le_of_lt_succ (lower.trans_le fewLeft))
      refine ⟨n + 1, by rw [if_neg ended, found, Option.map_some], Nat.succ_le_succ le, u, ?_, isDone⟩
      rw [List.replicate_succ, runInputs_cons hstep, run]

/-- Settles O38: after the accepted ACQUIRE the steps left are R74's bound. -/
theorem waitDoneExpandsWithinItsBound : Obligations.WaitDoneExpandsWithinItsBound := by
  intro S t h accepts hstep
  rw [step_runs accepts.1, stepWrites_accepts accepts] at hstep
  cases hstep
  have started : BlockInv S.beginStep.startAcquisition := blockInv_startAcquisition (s := S.beginStep) h.1 rfl
  obtain ⟨n, found, le, ends⟩ := waitDoneLength_of_stepsLeft_le started (by simp)
    (stepsLeft_startAcquisition S.beginStep).le
  refine ⟨n, le, ?_, ends⟩
  rw [State.beginStep_params] at found
  simp only [HostLine.expand, found]

end Sys2Proof.Machine
end

section
/-! What each host command writes, and what it leaves unchanged (O23, O24, O25, O26). -/

namespace Sys2Proof.Machine

/-- A command that is no SET_THRESHOLD leaves `cfg_thr`: ACQUIRE reads it, to latch it. -/
theorem commandWrites_cfg_thr {i : Instr} (notSet : ∀ v, i ≠ .setThreshold v) (s : State) :
    (commandWrites i s).cfg_thr = s.cfg_thr := by
  obtain e | ⟨v, isSet, -⟩ | ⟨-, -, -, e⟩ := commandWrites_cases i s
  · rw [e]
  · exact absurd isSet (notSet v)
  · rw [e, State.startAcquisition_cfg_thr]

/-- A command that starts no acquisition writes `cfg_thr` at most. -/
theorem commandWrites_eq_setCfgThr {i : Instr} {s : State} (notAccepted : (∀ a, i ≠ .acquire a) ∨ s.phase ≠ .idle) :
    commandWrites i s = s.setCfgThr (commandWrites i s).cfg_thr := by
  obtain e | ⟨v, -, e⟩ | ⟨a, isAcquire, idle, -⟩ := commandWrites_cases i s
  · rw [e]; rfl
  · rw [e]; rfl
  · obtain notAcquire | busy := notAccepted
    · exact absurd isAcquire (notAcquire a)
    · exact absurd idle busy

/-- Settles O26: the frame of `commandWrites`, which every command answers. -/
theorem commandsChangeOnlyTheirOwnFields : Obligations.CommandsChangeOnlyTheirOwnFields := by
  intro i s t answers
  rw [exec_eq] at answers
  cases answers
  exact ⟨⟨commandWrites_params i s, commandWrites_host_in i s, commandWrites_line_in i s, commandWrites_tick i s,
    commandWrites_done i s⟩, fun notSet => commandWrites_cfg_thr notSet s, commandWrites_eq_setCfgThr⟩

/-- Settles O23: the two words are those of the two commands, and `commandWrites` keeps the state for both. -/
theorem nopAndReservedSelectorWriteNothing : Obligations.NopAndReservedSelectorWriteNothing := fun a s =>
  ⟨decode_encode (.nop a), exec_eq (.nop a) s, decode_encode (.reserved11 a), exec_eq (.reserved11 a) s⟩

/-- 40_host_commands.md R101, in IDLE. -/
theorem exec_acquire_of_idle {s : State} (idle : s.phase = .idle) (a : Byte) :
    exec (.acquire a) s = .next s.startAcquisition :=
  if_pos idle

/-- 40_host_commands.md R101, in a busy phase. -/
theorem exec_acquire_of_busy {s : State} (busy : s.phase ≠ .idle) (a : Byte) : exec (.acquire a) s = .next s :=
  if_neg busy

/-- Settles O24: the state written out is `startAcquisition`, which is in START_LOW. -/
theorem acquireStartsOrIsIgnored : Obligations.AcquireStartsOrIsIgnored := fun a _ =>
  ⟨decode_encode (.acquire a), fun idle => ⟨exec_acquire_of_idle idle a, rfl⟩, fun busy => exec_acquire_of_busy busy a⟩

/-- Settles O25: the state written out is `setCfgThr`, and the port `thr` copies `cfg_thr`. -/
theorem setThresholdWritesCfgThr : Obligations.SetThresholdWritesCfgThr := fun imm8 s =>
  ⟨decode_encode (.setThreshold imm8), exec_eq (.setThreshold imm8) s, rfl, State.setCfgThr_thr_act s imm8⟩

end Sys2Proof.Machine
end

section
/-! The start sequence (41_start_sequence.md): one step of it, runs inside one of its phases, and the run from an accepted
ACQUIRE to the first sample (O30, O31, O32). -/

namespace Sys2Proof.Machine

/-! ### One step of a start phase -/

/-- The length of the start phase the state is in: START_LOW_TICKS, START_HIGH_TICKS, or 0 outside the two phases. -/
def startTicks (s : State) : Nat :=
  match s.phase with
  | .idle => 0
  | .startLow => s.params.start_low_ticks
  | .startHigh => s.params.start_high_ticks
  | .sample => 0

/-- What the last step of a start phase writes: START_HIGH follows START_LOW, and SAMPLE follows START_HIGH. -/
def State.leaveStart (s : State) : State :=
  match s.phase with
  | .idle => s
  | .startLow => s.enterStartHigh
  | .startHigh => s.enterSample
  | .sample => s

theorem startTicks_startLow {s : State} (low : s.phase = .startLow) : startTicks s = s.params.start_low_ticks := by
  simp only [startTicks, low]

theorem startTicks_startHigh {s : State} (high : s.phase = .startHigh) : startTicks s = s.params.start_high_ticks := by
  simp only [startTicks, high]

theorem leaveStart_startLow {s : State} (low : s.phase = .startLow) : s.leaveStart = s.enterStartHigh := by
  simp only [State.leaveStart, low]

theorem leaveStart_startHigh {s : State} (high : s.phase = .startHigh) : s.leaveStart = s.enterSample := by
  simp only [State.leaveStart, high]

/-- Only the two start phases have a length. -/
theorem startPhase_of_startTicks_pos {s : State} (pos : 0 < startTicks s) :
    s.phase = .startLow ∨ s.phase = .startHigh := by
  cases phase : s.phase with
  | idle => simp [startTicks, phase] at pos
  | startLow => exact .inl rfl
  | startHigh => exact .inr rfl
  | sample => simp [startTicks, phase] at pos

/-- 00_scope.md R6: TCW bits hold every count of a start phase. -/
theorem startTicks_le {s : State} (legal : s.params.Legal) : startTicks s ≤ 2 ^ s.params.tcw := by
  obtain ⟨-, ⟨-, -, lowFits, -, highFits, -⟩, -⟩ := legal
  cases phase : s.phase with
  | idle => simp [startTicks, phase]
  | startLow => exact (startTicks_startLow phase).trans_le lowFits
  | startHigh => exact (startTicks_startHigh phase).trans_le highFits
  | sample => simp [startTicks, phase]

/-- A step of either start phase counts, or leaves the phase if it is the last. -/
theorem stepWrites_startPhase {S : State} (start : 0 < startTicks S) :
    stepWrites S =
      (if S.tcount + 1 = startTicks S then S.beginStep.leaveStart
       else S.beginStep.setTcount (S.tcount + 1)).setCfgThr (stepWrites S).cfg_thr := by
  obtain low | high := startPhase_of_startTicks_pos start
  · rw [stepWrites_eq_phaseAction_beginStep (by simp [low]), phaseAction_startLow _ _ low, startTicks_startLow low,
      leaveStart_startLow (by exact low)]
    rfl
  · rw [stepWrites_eq_phaseAction_beginStep (by simp [high]), phaseAction_startHigh _ _ high, startTicks_startHigh high,
      leaveStart_startHigh (by exact high)]
    rfl

/-- 41_start_sequence.md R120, R121: the last step of a start phase. -/
theorem step_leaveStart {S : State} (runs : RunsCommand S) (last : S.tcount + 1 = startTicks S) :
    ∃ thr : Byte, step S = .next (S.beginStep.leaveStart.setCfgThr thr) := by
  refine ⟨(stepWrites S).cfg_thr, ?_⟩
  rw [step_runs runs, stepWrites_startPhase (by omega), if_pos last]
  rfl

/-- 41_start_sequence.md R120, R121: every other step of a start phase. -/
theorem step_countTick {S : State} (runs : RunsCommand S) (more : S.tcount + 1 < startTicks S) :
    ∃ thr : Byte, step S = .next { S.beginStep with cfg_thr := thr, tcount := S.tcount + 1 } := by
  refine ⟨(stepWrites S).cfg_thr, ?_⟩
  have fits : S.tcount + 1 < 2 ^ S.params.tcw := more.trans_le (startTicks_le runs.1)
  rw [step_runs runs, stepWrites_startPhase (by omega), if_neg more.ne, State.setTcount, State.beginStep_params,
    Nat.mod_eq_of_lt fits]
  rfl

/-- Settles O30: START_LOW is the start phase that START_HIGH follows. (`startLowStep` names the model's
operation.) -/
theorem step_startLow : Obligations.StartLowStep := by
  intro S runs low bound
  refine ⟨by simp [lineOe, low], by simp [lineOut, low], ?_⟩
  have ticks : startTicks S = S.params.start_low_ticks := startTicks_startLow low
  by_cases last : S.tcount + 1 = S.params.start_low_ticks
  · obtain ⟨thr, hstep⟩ := step_leaveStart runs (last.trans ticks.symm)
    rw [leaveStart_startLow (by exact low)] at hstep
    exact ⟨thr, by rw [hstep, if_pos last]; rfl⟩
  · obtain ⟨thr, hstep⟩ := step_countTick runs (by omega)
    exact ⟨thr, by rw [hstep, if_neg last]⟩

/-- Settles O31: START_HIGH is the start phase that SAMPLE follows. (`startHighStep` names the model's
operation.) -/
theorem step_startHigh : Obligations.StartHighStep := by
  intro S runs high bound
  refine ⟨by simp [lineOe, high], by simp [lineOut, high], ?_⟩
  have ticks : startTicks S = S.params.start_high_ticks := startTicks_startHigh high
  by_cases last : S.tcount + 1 = S.params.start_high_ticks
  · obtain ⟨thr, hstep⟩ := step_leaveStart runs (last.trans ticks.symm)
    rw [leaveStart_startHigh (by exact high)] at hstep
    exact ⟨thr, by rw [hstep, if_pos last]; rfl⟩
  · obtain ⟨thr, hstep⟩ := step_countTick runs (by omega)
    exact ⟨thr, by rw [hstep, if_neg last]⟩

/-! ### Runs inside a start phase -/

/-- The inputs of `k` steps are taken. -/
def State.takeInputs (s : State) (k : Nat) : State :=
  { s with host_in := s.host_in.drop k, line_in := s.line_in.drop k, tick := s.tick + k }

theorem takeInputs_takeInputs (s : State) (j k : Nat) : (s.takeInputs j).takeInputs k = s.takeInputs (j + k) := by
  simp [State.takeInputs, Nat.add_assoc]

theorem noReset_takeInputs {s : State} (h : NoReset s) (k : Nat) : NoReset (s.takeInputs k) :=
  fun x mem => h x (List.mem_of_mem_drop mem)

/-- The state `k` counted steps later, with whatever `cfg_thr` the commands of those steps left. -/
def State.countTicks (s : State) (k : Nat) (thr : Byte) : State :=
  { s.takeInputs k with tcount := s.tcount + k, cfg_thr := thr, done := false }

theorem countTicks_zero {s : State} (notDone : s.done = false) : s.countTicks 0 s.cfg_thr = s := by
  simp [State.countTicks, State.takeInputs, ← notDone]

theorem countTicks_succ (s : State) (k : Nat) (thr thr' : Byte) :
    { (s.countTicks k thr).beginStep with cfg_thr := thr', tcount := s.tcount + k + 1 } = s.countTicks (k + 1) thr' := by
  simp [State.countTicks, State.takeInputs, State.beginStep, State.consumeInputs, Nat.add_assoc]

theorem runsCommand_countTicks {S : State} (legal : S.params.Legal) (noReset : NoReset S) (k : Nat) (thr : Byte) :
    RunsCommand (S.countTicks k thr) :=
  runsCommand_of_noReset legal (noReset_takeInputs noReset k)

/-- The steps of a start phase before its last one count. -/
theorem runSteps_countTicks {S : State} (legal : S.params.Legal) (noReset : NoReset S) (notDone : S.done = false)
    {k : Nat} (more : S.tcount + k < startTicks S) : ∃ thr : Byte, runSteps k S = .next (S.countTicks k thr) := by
  induction k with
  | zero => exact ⟨S.cfg_thr, by rw [countTicks_zero notDone, runSteps]⟩
  | succ k ih =>
    obtain ⟨thr, run⟩ := ih (by omega)
    obtain ⟨thr', hstep⟩ := step_countTick (runsCommand_countTicks legal noReset k thr) more
    exact ⟨thr', by rw [runSteps_add run, runSteps_step hstep, runSteps]; exact congrArg _ (countTicks_succ ..)⟩

/-- What leaves a start phase clears the count and does not read `cfg_thr`. -/
theorem leaveStart_setCount {s : State} (start : s.phase = .startLow ∨ s.phase = .startHigh) (n : Nat) (thr : Byte) :
    State.leaveStart { s with tcount := n, cfg_thr := thr } = s.leaveStart.setCfgThr thr := by
  obtain low | high := start
  · rw [leaveStart_startLow low, leaveStart_startLow (by exact low)]; rfl
  · rw [leaveStart_startHigh high, leaveStart_startHigh (by exact high)]; rfl

/-- The step after the last counted one leaves the phase: a start phase lasts exactly its length. -/
theorem runSteps_leaveStart {S : State} (legal : S.params.Legal) (noReset : NoReset S) (notDone : S.done = false)
    (first : S.tcount = 0) (start : 0 < startTicks S) :
    ∃ thr : Byte, runSteps (startTicks S) S = .next (S.countTicks (startTicks S) thr).leaveStart := by
  obtain ⟨k, ticks⟩ : ∃ k, startTicks S = k + 1 := Nat.exists_eq_add_one.mpr start
  obtain ⟨thr, run⟩ := runSteps_countTicks legal noReset notDone (k := k) (by omega)
  have last : (S.countTicks k thr).tcount + 1 = startTicks (S.countTicks k thr) :=
    calc S.tcount + k + 1 = k + 1 := by rw [first, Nat.zero_add]
      _ = startTicks S := ticks.symm
  obtain ⟨thr', hstep⟩ := step_leaveStart (runsCommand_countTicks legal noReset k thr) last
  have phase : (S.countTicks k thr).beginStep.phase = .startLow ∨ (S.countTicks k thr).beginStep.phase = .startHigh :=
    startPhase_of_startTicks_pos (s := S) start
  refine ⟨thr', ?_⟩
  rw [ticks, runSteps_add run, runSteps_step hstep, runSteps, ← countTicks_succ S k thr thr']
  exact congrArg _ (leaveStart_setCount phase _ _).symm

/-! ### From an accepted ACQUIRE to the first sample -/

/-- The state after the step from `S` that accepts an ACQUIRE (40_host_commands.md R101). -/
def State.acquired (S : State) : State := S.beginStep.startAcquisition

theorem runSteps_acquired {S : State} (accepts : AcceptsAcquire S) (k : Nat) :
    runSteps (1 + k) S = runSteps k S.acquired := by
  have hstep : step S = .next S.acquired := by rw [step_runs accepts.1, stepWrites_accepts accepts, State.acquired]
  rw [Nat.add_comm, runSteps_step hstep]

theorem noReset_acquired {S : State} (h : NoReset S) : NoReset S.acquired :=
  fun x mem => h x (List.mem_of_mem_tail mem)

/-- The first state of START_HIGH of the acquisition that the step from `S` starts, with whatever `cfg_thr` the commands
left. -/
def State.acquiredHigh (S : State) (thr : Byte) : State :=
  (S.acquired.countTicks S.params.start_low_ticks thr).enterStartHigh

theorem noReset_acquiredHigh {S : State} (h : NoReset S) (thr : Byte) : NoReset (S.acquiredHigh thr) :=
  noReset_takeInputs (noReset_acquired h) _

/-- R122, the Low part: START_LOW_TICKS steps after the accepting one, START_HIGH begins. -/
theorem runSteps_acquiredHigh {S : State} (accepts : AcceptsAcquire S) (noReset : NoReset S) :
    ∃ thr : Byte, runSteps (1 + S.params.start_low_ticks) S = .next (S.acquiredHigh thr) := by
  have ⟨⟨legal, _⟩, _⟩ := accepts
  have ⟨_, ⟨_, lowPos, _⟩, _⟩ := legal
  rw [runSteps_acquired accepts]
  exact runSteps_leaveStart (S := S.acquired) legal (noReset_acquired noReset) rfl rfl lowPos

/-- R122: START_LOW_TICKS + START_HIGH_TICKS steps after the accepting one, sampling begins. -/
theorem runSteps_startSequence {S : State} (accepts : AcceptsAcquire S) (noReset : NoReset S) :
    ∃ thr : Byte, runSteps (1 + startSteps S.params) S =
      .next ((S.acquired.takeInputs (startSteps S.params)).enterSample.setCfgThr thr) := by
  have ⟨⟨legal, _⟩, _⟩ := accepts
  have ⟨_, ⟨_, _, _, highPos, _⟩, _⟩ := legal
  obtain ⟨thr, low⟩ := runSteps_acquiredHigh accepts noReset
  obtain ⟨thr', high⟩ :=
    runSteps_leaveStart (S := S.acquiredHigh thr) legal (noReset_acquiredHigh noReset thr) rfl rfl highPos
  refine ⟨thr', ?_⟩
  rw [startSteps, ← Nat.add_assoc, runSteps_add low]
  refine high.trans (congrArg _ ?_)
  calc ((S.acquiredHigh thr).countTicks S.params.start_high_ticks thr').leaveStart
      = (((S.acquired.takeInputs S.params.start_low_ticks).takeInputs
          S.params.start_high_ticks).enterSample.setCfgThr thr') := rfl
    _ = ((S.acquired.takeInputs (startSteps S.params)).enterSample.setCfgThr thr') := by
      rw [takeInputs_takeInputs, startSteps]

/-- Settles O32: inside each start phase the steps count, and a phase lasts exactly its length. -/
theorem startSequenceDuration : Obligations.StartSequenceDuration := by
  intro S accepts noReset
  have ⟨⟨legal, _⟩, _⟩ := accepts
  refine ⟨fun j before => ?_, fun j before => ?_, ?_⟩
  · obtain ⟨thr, run⟩ := runSteps_countTicks (S := S.acquired) legal (noReset_acquired noReset) rfl
      ((Nat.zero_add j).trans_lt before)
    rw [runSteps_acquired accepts]
    exact ⟨_, run, rfl, Nat.zero_add j, rfl, rfl⟩
  · obtain ⟨thr, low⟩ := runSteps_acquiredHigh accepts noReset
    obtain ⟨thr', run⟩ := runSteps_countTicks (S := S.acquiredHigh thr) legal (noReset_acquiredHigh noReset thr) rfl
      ((Nat.zero_add j).trans_lt before)
    rw [runSteps_add low]
    exact ⟨_, run, rfl, Nat.zero_add j, rfl, rfl⟩
  · obtain ⟨thr, run⟩ := runSteps_startSequence accepts noReset
    rw [Nat.add_assoc]
    exact ⟨_, run, rfl, rfl, rfl, rfl, rfl⟩

end Sys2Proof.Machine
end

section
/-! One sample (42_edge_sampling.md): what it writes, the level of the windows it opens, and what a normal end evaluates
(O33, O34, O35, O36). -/

namespace Sys2Proof.Machine

/-! ### The step in SAMPLE -/

theorem sampleStep_of_eq {S : State} {line : Level} (equal : line = S.prev) (post : State) :
    sampleStep S line post = equalSample S post :=
  if_pos equal

theorem sampleStep_of_ne {S : State} {line : Level} (flip : line ≠ S.prev) (post : State) :
    sampleStep S line post = flipSample S line post :=
  if_neg flip

/-- In SAMPLE the step is one sample, with the `cfg_thr` the command left. -/
theorem step_sample {S : State} (runs : RunsCommand S) (sample : S.phase = .sample) :
    ∃ thr : Byte, step S = .next (sampleStep S (currentLine S) (S.beginStep.setCfgThr thr)) := by
  refine ⟨(stepWrites S).cfg_thr, (step_runs runs).trans (congrArg _ ?_)⟩
  exact (stepWrites_busy (by simp [sample])).trans (phaseAction_sample _ _ sample)

/-- Settles O33: the sample is `equalSample`, whose count is the 8-bit sum. -/
theorem equalSampleExtendsOrAborts : Obligations.EqualSampleExtendsOrAborts := by
  intro S runs sample equal
  obtain ⟨thr, hstep⟩ := step_sample runs sample
  rw [sampleStep_of_eq equal, equalSample] at hstep
  refine ⟨thr, hstep.trans (congrArg _ ?_)⟩
  have count : BitVec.ofNat 8 (S.spin.toNat + 1) = S.spin + 1#8 := by simp [BitVec.ofNat_add]
  rw [State.setSpin, count]
  rfl

/-- What a flip writes is what R143 lists: the pre-state's window goes to `assemble`, and the 7-bit sum opens the next. -/
theorem flipWrites_eq (S : State) (line : Level) (post : State) :
    flipWrites S line post =
      { post with
        shift := (flipAssembly S).1, nbits := BitVec.ofNat 6 (flipAssembly S).2, prev := line, spin := 1#8,
        win := S.win + 1#7 } := by
  have index : BitVec.ofNat 7 (S.win.toNat + 1) = S.win + 1#7 := by simp [BitVec.ofNat_add]
  rw [flipWrites, State.openWindow, index]
  rfl

/-- Settles O34: the sample is `flipSample`. -/
theorem flipCompletesTheWindow : Obligations.FlipCompletesTheWindow := by
  intro S runs sample flip
  obtain ⟨thr, hstep⟩ := step_sample runs sample
  rw [sampleStep_of_ne flip] at hstep
  exact ⟨flipWrites S (currentLine S) (S.beginStep.setCfgThr thr), ⟨thr, flipWrites_eq ..⟩, hstep⟩

/-! ### The level of a window -/

/-- 42_edge_sampling.md R141: the current window is High if and only if its index is even. -/
def Alternates (s : State) : Prop := s.prev = .high ↔ s.win.toNat % 2 = 0

/-- Window 0 is High. -/
theorem alternates_window0 {s : State} (win : s.win = 0#7) (prev : s.prev = .high) : Alternates s := by
  simp [Alternates, win, prev]

/-- A flip changes the level, and 7 bits keep the parity of the next index. -/
theorem alternates_flipWrites {S : State} (h : Alternates S) {line : Level} (flip : line ≠ S.prev) (post : State) :
    Alternates (flipWrites S line post) := by
  unfold Alternates at h ⊢
  rw [flipWrites_prev, flipWrites_win, eq_high_iff_of_ne flip, h, BitVec.toNat_ofNat]
  omega

theorem alternates_phaseAction {S : State} (h : Alternates S) (line : Level) :
    Alternates (phaseAction S line S.beginStep) := by
  obtain ⟨-, e⟩ | ⟨-, -, e⟩ | ⟨-, -, e⟩ | ⟨-, -, e⟩ | ⟨-, -, e⟩ | ⟨-, -, e⟩ | ⟨-, -, -, e⟩ | ⟨-, ⟨flip, -⟩, e⟩ |
    ⟨-, flip, -, e⟩ := phaseAction_cases S line S.beginStep <;> rw [e]
  · exact h
  · exact h
  · exact h
  · exact alternates_window0 rfl rfl
  · exact h
  · simpa [Alternates] using h
  · exact h
  · simpa [Alternates] using alternates_flipWrites h flip S.beginStep
  · exact alternates_flipWrites h flip _

/-- Settles O35: reset, an accepted ACQUIRE and the start of sampling open window 0, and a flip alone opens another. -/
theorem windowsAlternateInLevel : Obligations.WindowsAlternateInLevel := by
  intro S t h hstep
  obtain ⟨-, rfl⟩ | ⟨runs, rfl⟩ := step_next_cases hstep
  · exact alternates_window0 rfl rfl
  · obtain ⟨-, -, e⟩ | ⟨-, -, v, e⟩ | ⟨-, v, e⟩ := stepWrites_cases runs <;> rw [e]
    · exact alternates_window0 rfl rfl
    · exact h
    · exact alternates_phaseAction h _

/-! ### The normal end -/

/-- 00_scope.md R6: MAX_WINDOWS windows hold a data window for each of the 40 bits. -/
theorem frameBits_le_dataWindowsBelow {p : Params} (legal : p.Legal) :
    frameBits ≤ dataWindowsBelow p p.max_windows := by
  obtain ⟨-, -, (frameFits : p.ack_windows + 2 * 40 - 1 ≤ p.max_windows), -⟩ := legal
  simp only [dataWindowsBelow, frameBits]
  omega

/-- The flip that completes window MAX_WINDOWS − 1 has assembled a full frame. -/
theorem flipAssembly_full {S : State} (h : BlockInv S) (last : S.win.toNat + 1 = S.params.max_windows) :
    (flipAssembly S).2 = frameBits := by
  rw [flipAssembly_bits h, last]
  exact Nat.min_eq_left (frameBits_le_dataWindowsBelow h.1)

/-- Settles O36: a normal end evaluates the 40 bits of `flipAssembly_full`. -/
theorem normalEndEvaluatesAFullFrame : Obligations.NormalEndEvaluatesAFullFrame := by
  rintro S h runs sample ⟨flip, last⟩
  obtain ⟨thr, hstep⟩ := step_sample runs sample
  rw [sampleStep_of_ne flip, flipSample, if_pos last, flipAssembly_full h last, last] at hstep
  have ⟨_, _, _, windowsFit, _⟩ := h.1
  refine ⟨_, hstep, by simp, by simp, ?_, by simp, by simp⟩
  rw [evaluate_nwin_out]
  exact Nat.mod_eq_of_lt (by omega)

end Sys2Proof.Machine
end

section
/-! The bound on every acquisition, from the steps left (O37). -/

namespace Sys2Proof.Machine

/-- From a busy state some run of at most `stepsLeft` steps completes, and its end meets the invariant. -/
theorem completes_within_stepsLeft {S : State} (h : BlockInv S) (noReset : NoReset S) (busy : S.phase ≠ .idle) :
    ∃ k t, k ≤ stepsLeft S ∧ runSteps k S = .next t ∧ t.done = true ∧ BlockInv t := by
  induction left : stepsLeft S using Nat.strong_induction_on generalizing S with
  | _ n ih =>
    subst left
    have hstep := step_runs (runsCommand_of_noReset h.1 noReset)
    have kept := blockInv_stepWrites h
    obtain ended | ⟨stillBusy, lower⟩ := endsOrLowers_stepWrites h busy
    · exact ⟨1, _, stepsLeft_pos h busy, runSteps_step hstep, ended, kept⟩
    · obtain ⟨k, t, le, run, ends⟩ := ih _ lower kept (noReset_stepWrites noReset) stillBusy rfl
      exact ⟨k + 1, t, le.trans_lt lower, (runSteps_step hstep).trans run, ends⟩

/-- 44_checksum_validator.md R188, R191: the state after a completing step is in IDLE and has an outcome. -/
theorem idle_and_outcome_of_done {t : State} (h : BlockInv t) (isDone : t.done = true) :
    t.phase = .idle ∧ t.outcome ≠ .none := by
  obtain ⟨-, -, -, -, ⟨-, notDone⟩ | ⟨idle, outcome, -⟩⟩ := h
  · exact absurd isDone (by simp [notDone])
  · exact ⟨idle, outcome ▸ outcomeOf_ne_none _ _ _ _⟩

theorem stepsLeft_sample_le {S : State} (sample : S.phase = .sample) : stepsLeft S ≤ maxSampleSteps S.params := by
  rw [stepsLeft_sample sample]
  exact (Nat.sub_le _ _).trans (Nat.succ_le_succ (Nat.mul_le_mul_right _ (Nat.sub_le _ _)))

/-- Settles O37: the steps left after an accepted ACQUIRE, and in a SAMPLE state, are within the bounds of R145. -/
theorem everyAcquisitionEndsInBoundedTime : Obligations.EveryAcquisitionEndsInBoundedTime := by
  refine ⟨fun S h accepts noReset => ?_, fun S h sample noReset => ?_, rfl, rfl⟩
  · have started : BlockInv S.acquired := blockInv_startAcquisition (s := S.beginStep) h.1 rfl
    obtain ⟨k, t, le, run, isDone, inv⟩ :=
      completes_within_stepsLeft started (noReset_acquired noReset) (by simp [State.acquired])
    exact ⟨k, t, le, (runSteps_acquired accepts k).trans run, isDone, idle_and_outcome_of_done inv isDone⟩
  · obtain ⟨k, t, le, run, isDone, inv⟩ := completes_within_stepsLeft h noReset (by simp [sample])
    exact ⟨k, t, le.trans (stepsLeft_sample_le sample), run, isDone, idle_and_outcome_of_done inv isDone⟩

end Sys2Proof.Machine
end

section
/-! Runs of samples at one level, and a line stuck at one level (42_edge_sampling.md R142; O39, O40). -/

namespace Sys2Proof.Machine

/-! ### A run of equal samples -/

/-- The state samples, and no reset is queued. -/
structure Sampling (S : State) : Prop where
  legal : S.params.Legal
  sample : S.phase = .sample
  noReset : NoReset S

theorem Sampling.runs {S : State} (h : Sampling S) : RunsCommand S := runsCommand_of_noReset h.legal h.noReset

/-- The state `k` samples at the level of the current window later, with whatever `cfg_thr` the commands of those steps
left. -/
def State.extendWindow (s : State) (k : Nat) (thr : Byte) : State :=
  { s.takeInputs k with
    spin := BitVec.ofNat 8 (s.spin.toNat + k), cfg_thr := thr, done := s.done && k == 0 }

theorem extendWindow_zero (s : State) : s.extendWindow 0 s.cfg_thr = s := by
  simp [State.extendWindow, State.takeInputs]

theorem extendWindow_succ (s : State) (k : Nat) (thr thr' : Byte) :
    { (s.extendWindow k thr).beginStep with cfg_thr := thr', spin := (s.extendWindow k thr).spin + 1#8 } =
      s.extendWindow (k + 1) thr' := by
  simp [State.extendWindow, State.takeInputs, State.beginStep, State.consumeInputs, Nat.add_assoc,
    BitVec.ofNat_add, BitVec.add_assoc]

theorem sampling_extendWindow {S : State} (h : Sampling S) (k : Nat) (thr : Byte) : Sampling (S.extendWindow k thr) :=
  ⟨h.legal, h.sample, noReset_takeInputs h.noReset k⟩

/-- 8 bits hold the count of a window that does not abort. -/
theorem extendWindow_spin_toNat {S : State} (legal : S.params.Legal) {k : Nat} (below : S.spin.toNat + k < S.params.max_spin)
    (thr : Byte) : (S.extendWindow k thr).spin.toNat = S.spin.toNat + k := by
  have ⟨_, _, _, _, _, spinFits, _⟩ := legal
  exact Nat.mod_eq_of_lt (by omega)

theorem extendWindow_line_in {S : State} {k : Nat} {l : Level} {ls : List Level}
    (queue : S.line_in = List.replicate k l ++ ls) (thr : Byte) : (S.extendWindow k thr).line_in = ls := by
  simp [State.extendWindow, State.takeInputs, queue]

theorem currentLine_of_cons {s : State} {l : Level} {ls : List Level} (queue : s.line_in = l :: ls) : currentLine s = l := by
  simp only [currentLine, queue]

/-- 42_edge_sampling.md R142: an equal sample that does not abort is counted. -/
theorem step_extend {S : State} (h : Sampling S) (equal : currentLine S = S.prev)
    (notLast : S.spin.toNat + 1 ≠ S.params.max_spin) :
    ∃ thr : Byte, step S = .next { S.beginStep with cfg_thr := thr, spin := S.spin + 1#8 } := by
  obtain ⟨thr, hstep⟩ := equalSampleExtendsOrAborts S h.runs h.sample equal
  exact ⟨thr, by rw [hstep, if_neg notLast]⟩

/-- 42_edge_sampling.md R142: the MAX_SPIN-th equal sample evaluates what was assembled. -/
theorem step_abort {S : State} (h : Sampling S) (equal : currentLine S = S.prev)
    (last : S.spin.toNat + 1 = S.params.max_spin) :
    ∃ thr : Byte, step S = .next (evaluate S.nbits.toNat S.shift S.win.toNat (S.beginStep.setCfgThr thr)) := by
  obtain ⟨thr, hstep⟩ := equalSampleExtendsOrAborts S h.runs h.sample equal
  exact ⟨thr, by rw [hstep, if_pos last]; rfl⟩

/-- A run too short to abort: each of its samples is counted. -/
theorem runSteps_extendWindow {S : State} (h : Sampling S) {k : Nat} {ls : List Level}
    (queue : S.line_in = List.replicate k S.prev ++ ls) (below : S.spin.toNat + k < S.params.max_spin) :
    ∃ thr : Byte, runSteps k S = .next (S.extendWindow k thr) := by
  induction k generalizing ls with
  | zero => exact ⟨S.cfg_thr, by rw [extendWindow_zero, runSteps]⟩
  | succ k ih =>
    have queue' : S.line_in = List.replicate k S.prev ++ S.prev :: ls := by simp [queue, List.replicate_succ']
    obtain ⟨thr, run⟩ := ih queue' (by omega)
    have count := extendWindow_spin_toNat h.legal (k := k) (by omega) thr
    obtain ⟨thr', hstep⟩ := step_extend (sampling_extendWindow h k thr)
      (currentLine_of_cons (extendWindow_line_in queue' thr)) (by rw [count]; exact Nat.ne_of_lt below)
    rw [extendWindow_succ] at hstep
    exact ⟨thr', (runSteps_add run).trans (runSteps_step hstep)⟩

/-- Settles O39: the run of `runSteps_extendWindow`, not empty. -/
theorem equalSamplesOnlyCount : Obligations.EqualSamplesOnlyCount := by
  intro n S legal sample noReset equal below
  have queue : S.line_in = List.replicate (n + 1) S.prev ++ S.line_in.drop (n + 1) := by
    rw [← equal, List.take_append_drop]
  obtain ⟨thr, run⟩ := runSteps_extendWindow ⟨legal, sample, noReset⟩ queue below
  exact ⟨thr, by rw [run]; simp [State.extendWindow, State.takeInputs]⟩

/-! ### Runs that sample up to a completing step -/

/-- From `S`, `n` steps end in a state that `Q` holds of, and every state before it is in SAMPLE. -/
def SamplesUntil (S : State) (n : Nat) (Q : State → Prop) : Prop :=
  (∀ k, k < n → ∃ u, runSteps k S = .next u ∧ u.phase = .sample) ∧ ∃ t, runSteps n S = .next t ∧ Q t

theorem samplesUntil_step {S t : State} {n : Nat} {Q : State → Prop} (sample : S.phase = .sample) (hstep : step S = .next t)
    (h : SamplesUntil t n Q) : SamplesUntil S (n + 1) Q := by
  obtain ⟨before, u, run, ends⟩ := h
  refine ⟨fun k lt => ?_, u, (runSteps_step hstep).trans run, ends⟩
  cases k with
  | zero => exact ⟨S, rfl, sample⟩
  | succ k => rw [runSteps_step hstep]; exact before k (by omega)

theorem samplesUntil_last {S t : State} {Q : State → Prop} (sample : S.phase = .sample) (hstep : step S = .next t)
    (h : Q t) : SamplesUntil S 1 Q :=
  samplesUntil_step sample hstep ⟨fun k lt => absurd lt (Nat.not_lt_zero k), t, rfl, h⟩

/-- A run of equal samples stays in SAMPLE. -/
theorem samplesUntil_extendWindow {S : State} (h : Sampling S) {k n : Nat} {ls : List Level} {Q : State → Prop}
    (queue : S.line_in = List.replicate k S.prev ++ ls) (below : S.spin.toNat + k < S.params.max_spin)
    (after : ∀ thr, SamplesUntil (S.extendWindow k thr) n Q) : SamplesUntil S (k + n) Q := by
  obtain ⟨thr, run⟩ := runSteps_extendWindow h queue below
  obtain ⟨before, t, runAfter, ends⟩ := after thr
  refine ⟨fun j lt => ?_, t, (runSteps_add run).trans runAfter, ends⟩
  by_cases inRun : j < k
  · obtain ⟨m, rfl⟩ := Nat.exists_eq_add_of_lt inRun
    rw [Nat.add_assoc, List.replicate_add, List.append_assoc] at queue
    obtain ⟨thr', run'⟩ := runSteps_extendWindow h queue (by omega)
    exact ⟨_, run', h.sample⟩
  · obtain ⟨i, rfl⟩ := Nat.exists_eq_add_of_le (Nat.not_lt.mp inRun)
    rw [runSteps_add run]
    exact before i (by omega)

/-! ### A line stuck at one level -/

/-- The held level of an acquisition that ends early (42_edge_sampling.md R146): its last sample evaluates the bits, value
and windows of the first state. -/
theorem samplesUntil_abort {S : State} (h : Sampling S) {k : Nat} {ls : List Level} {Q : State → Prop}
    (queue : S.line_in = List.replicate (k + 1) S.prev ++ ls) (last : S.spin.toNat + k + 1 = S.params.max_spin)
    (after : ∀ thr, Q (evaluate S.nbits.toNat S.shift S.win.toNat (S.extendWindow k thr).beginStep)) :
    SamplesUntil S (k + 1) Q := by
  have queue' : S.line_in = List.replicate k S.prev ++ S.prev :: ls := by simp [queue, List.replicate_succ']
  have below : S.spin.toNat + k < S.params.max_spin := by omega
  refine samplesUntil_extendWindow h queue' below fun thr => ?_
  obtain ⟨thr', hstep⟩ := step_abort (sampling_extendWindow h k thr)
    (currentLine_of_cons (extendWindow_line_in queue' thr)) (by rw [extendWindow_spin_toNat h.legal below]; exact last)
  exact samplesUntil_last h.sample hstep (after thr')

/-- 42_edge_sampling.md R143: a flip that leaves windows to complete. -/
theorem step_flip {S : State} (h : Sampling S) (flip : currentLine S ≠ S.prev)
    (notLast : S.win.toNat + 1 ≠ S.params.max_windows) :
    ∃ thr : Byte, step S = .next (flipWrites S (currentLine S) (S.beginStep.setCfgThr thr)) := by
  obtain ⟨thr, hstep⟩ := step_sample h.runs h.sample
  rw [sampleStep_of_ne flip, flipSample, if_neg notLast] at hstep
  exact ⟨thr, hstep⟩

theorem sampling_flipWrites {S : State} (h : Sampling S) (line : Level) (thr : Byte) :
    Sampling (flipWrites S line (S.beginStep.setCfgThr thr)) :=
  ⟨h.legal, h.sample, fun x mem => h.noReset x (List.mem_of_mem_tail mem)⟩

/-- A window brings one bit at most. -/
theorem flipAssembly_bits_le_succ (S : State) : (flipAssembly S).2 ≤ S.nbits.toNat + 1 := by
  rw [flipAssembly]
  obtain ⟨-, e⟩ | ⟨-, e⟩ | ⟨-, -, e⟩ := assemble_cases (p := S.params) (w := S.win.toNat) (lvl := S.prev)
    (d := S.spin.toNat) (shift := S.shift) (nbits := S.nbits.toNat) (thr := S.thr_act) <;> rw [e]
  · exact Nat.le_succ _
  · exact Nat.le_succ _

/-- 44_checksum_validator.md R181: a level held from a state with too few bits and windows for a TIMEOUT ends with
INSUFFICIENT_BITS. -/
theorem runSteps_heldLevel {S : State} (h : Sampling S) {k : Nat} {ls : List Level}
    (queue : S.line_in = List.replicate k S.prev ++ ls) (last : S.spin.toNat + k = S.params.max_spin) (pos : 0 < k)
    (fewBits : S.nbits.toNat < frameBits) (fewWindows : S.win.toNat < frameBits) :
    ∃ t, runSteps k S = .next t ∧ t.done = true ∧ t.phase = .idle ∧ t.outcome = .insufficientBits ∧
      t.nwin_out = S.win := by
  obtain ⟨k, rfl⟩ := Nat.exists_eq_add_one.mpr pos
  refine (samplesUntil_abort h queue last fun thr => ?_).2
  refine ⟨evaluate_done .., evaluate_phase .., ?_, by simp⟩
  rw [evaluate_outcome, outcomeOf_incomplete fewBits, if_pos (by omega)]

/-- Settles O40: a High line holds the level of window 0. A Low one flips with its first sample, which leaves at most one
bit, and holds the level of window 1. -/
theorem stuckLineAborts : Obligations.StuckLineAborts := by
  intro S l rest legal sample win spin prev nbits noReset queue
  have h : Sampling S := ⟨legal, sample, noReset⟩
  have ⟨_, _, (frameFits : S.params.ack_windows + 2 * 40 - 1 ≤ S.params.max_windows), _, spinMin, _⟩ := legal
  cases l with
  | high =>
    obtain ⟨t, run, isDone, idle, outcome, windows⟩ := runSteps_heldLevel h (prev ▸ queue) (by simp [spin]) (by omega)
      (by simp [nbits]) (by simp [win])
    exact ⟨t, run, isDone, idle, outcome, by rw [windows, win, if_pos rfl]⟩
  | low =>
    obtain ⟨k, samples⟩ : ∃ k, S.params.max_spin = k + 1 := Nat.exists_eq_add_one.mpr (by omega)
    rw [samples, List.replicate_succ, List.cons_append] at queue
    have line : currentLine S = .low := currentLine_of_cons queue
    obtain ⟨thr, hstep⟩ := step_flip h (by simp [line, prev]) (by simp [win]; omega)
    rw [line] at hstep
    have bits : (flipAssembly S).2 ≤ 1 := by simpa [nbits] using flipAssembly_bits_le_succ S
    obtain ⟨t, run, isDone, idle, outcome, windows⟩ := runSteps_heldLevel (k := k) (ls := rest)
      (sampling_flipWrites h .low thr) (by simp [queue]) (by simp [samples, Nat.add_comm]) (by omega)
      (((Nat.mod_le _ _).trans bits).trans_lt (by decide)) (by simp [win])
    refine ⟨t, samples ▸ (runSteps_step hstep).trans run, isDone, idle, outcome, ?_⟩
    rw [windows, flipWrites_win, win]
    rfl

end Sys2Proof.Machine
end

section
/-! Sampling a trace is the fold of `assemble` over its window durations (42_edge_sampling.md R146, 43_frame_assembly.md
R164; O54). -/

namespace Sys2Proof.Machine

/-! ### The samples of a trace, window by window -/

/-- The samples of the windows from `w` on, of the durations `ds`, the first at level `lvl`: `samplesOf` with `w` windows
completed before. -/
def samplesFrom (p : Params) (w : Nat) (lvl : Level) (ds : List Nat) : List Level :=
  runsFrom lvl ds ++
    if w + ds.length = p.max_windows then [levelAfter lvl ds.length]
    else List.replicate p.max_spin (levelAfter lvl ds.length)

theorem samplesOf_eq_samplesFrom (p : Params) (ds : List Nat) : samplesOf p ds = samplesFrom p 0 .high ds := by
  rw [samplesFrom, Nat.zero_add, samplesOf]

theorem levelAfter_zero (lvl : Level) : levelAfter lvl 0 = lvl := rfl

theorem levelAfter_succ (lvl : Level) (n : Nat) : levelAfter lvl (n + 1) = levelAfter lvl.flip n := by
  obtain even | odd := Nat.mod_two_eq_zero_or_one n
  · have : (n + 1) % 2 ≠ 0 := by omega
    simp [levelAfter, even, this]
  · have : (n + 1) % 2 = 0 := by omega
    cases lvl <;> simp [levelAfter, odd, this, Level.flip]

/-- After the last completed window but no MAX_WINDOWS of them, the level is held. -/
theorem samplesFrom_nil {p : Params} {w : Nat} (more : w ≠ p.max_windows) (lvl : Level) :
    samplesFrom p w lvl [] = List.replicate p.max_spin lvl := by
  simp [samplesFrom, runsFrom, more, levelAfter_zero]

theorem samplesFrom_cons (p : Params) (w : Nat) (lvl : Level) (d : Nat) (ds : List Nat) :
    samplesFrom p w lvl (d :: ds) = List.replicate d lvl ++ samplesFrom p (w + 1) lvl.flip ds := by
  have count : w + (ds.length + 1) = w + 1 + ds.length := by omega
  simp [samplesFrom, runsFrom, levelAfter_succ, count]

/-- After MAX_WINDOWS windows the flip sample of the last one is all there is. -/
theorem samplesFrom_last {p : Params} {w : Nat} (last : w = p.max_windows) (lvl : Level) :
    samplesFrom p w lvl [] = [lvl] := by
  simp [samplesFrom, runsFrom, last, levelAfter_zero]

/-- What the durations `ds` of the windows from `w` on are, when the first of these windows has `c` samples already: those
of a trace of at most MAX_WINDOWS windows, each below MAX_SPIN and, after the first, of one sample at least. -/
structure TraceFrom (p : Params) (w c : Nat) (ds : List Nat) : Prop where
  windows : w + ds.length ≤ p.max_windows
  below : ∀ d ∈ ds, d < p.max_spin
  begun : ∀ d ∈ ds.head?, c ≤ d
  nonempty : ∀ d ∈ ds.tail, 1 ≤ d

theorem traceFrom_of_validTrace {p : Params} {ds : List Nat} (valid : ValidTrace p ds) : TraceFrom p 0 0 ds := by
  obtain ⟨windows, below, nonempty⟩ := valid
  exact ⟨by omega, below, fun d _ => Nat.zero_le d, nonempty⟩

/-- The flip that completes window `w` is the first sample of window `w + 1`. -/
theorem TraceFrom.tail {p : Params} {w c d : Nat} {ds : List Nat} (h : TraceFrom p w c (d :: ds)) :
    TraceFrom p (w + 1) 1 ds where
  windows := by have := h.windows; rw [List.length_cons] at this; omega
  below := fun x mem => h.below x (List.mem_cons_of_mem d mem)
  begun := fun x mem => h.nonempty x (List.mem_of_mem_head? mem)
  nonempty := fun x mem => h.nonempty x (List.mem_of_mem_tail mem)

/-- A window that a flip opens has its level for a first sample. -/
theorem samplesFrom_eq_cons {p : Params} {w : Nat} {ds : List Nat} (h : TraceFrom p w 1 ds) (spinPos : 0 < p.max_spin)
    (lvl : Level) : ∃ ls, samplesFrom p w lvl ds = lvl :: ls := by
  cases ds with
  | nil =>
    by_cases last : w = p.max_windows
    · exact ⟨[], samplesFrom_last last lvl⟩
    · obtain ⟨n, samples⟩ := Nat.exists_eq_add_one.mpr spinPos
      exact ⟨_, by rw [samplesFrom_nil last, samples, List.replicate_succ]⟩
  | cons d ds =>
    obtain ⟨n, rfl⟩ := Nat.exists_eq_add_one.mpr (h.begun d rfl)
    exact ⟨_, by rw [samplesFrom_cons, List.replicate_succ, List.cons_append]⟩

/-- Of `n` equal samples at the head of a list, `c` are taken. -/
theorem eq_of_replicate_append_eq {c n : Nat} (le : c ≤ n) {l : Level} {xs ys : List Level}
    (h : List.replicate c l ++ xs = List.replicate n l ++ ys) : xs = List.replicate (n - c) l ++ ys := by
  obtain ⟨k, rfl⟩ := Nat.exists_eq_add_of_le le
  rw [List.replicate_add, List.append_assoc] at h
  rw [Nat.add_sub_cancel_left]
  exact List.append_cancel_left h

theorem flip_ne (l : Level) : l.flip ≠ l := by
  cases l <;> simp [Level.flip]

/-! ### What an acquisition decodes -/

/-- The state samples a window of an acquisition whose results are cleared. -/
structure Decoding (S : State) : Prop extends Sampling S where
  cleared : ResultsCleared S
  nbitsLe : S.nbits.toNat ≤ frameBits
  winLt : S.win.toNat < S.params.max_windows

/-- A completed acquisition of value and bits `a` and `W` windows. -/
def Decoded (a : FrameWord × Nat) (W : Nat) (t : State) : Prop :=
  t.done = true ∧ t.phase = .idle ∧ t.shift = a.1 ∧ t.nbits.toNat = a.2 ∧ t.win.toNat = W ∧ ResultsOfLast t

/-- An evaluation of the registers completes the acquisition they hold. -/
theorem decoded_evaluate {s : State} (cleared : ResultsCleared s) (nbitsLe : s.nbits.toNat ≤ frameBits) :
    Decoded (s.shift, s.nbits.toNat) s.win.toNat (evaluate s.nbits.toNat s.shift s.win.toNat s) :=
  ⟨evaluate_done .., evaluate_phase .., evaluate_shift .., by rw [evaluate_nbits], by rw [evaluate_win],
    resultsOfLast_evaluate cleared nbitsLe⟩

theorem decoding_extendWindow {S : State} (h : Decoding S) (k : Nat) (thr : Byte) : Decoding (S.extendWindow k thr) :=
  ⟨sampling_extendWindow h.toSampling k thr, h.cleared, h.nbitsLe, h.winLt⟩

theorem Decoding.flip_bits_le {S : State} (h : Decoding S) : (flipAssembly S).2 ≤ frameBits := assemble_bits_le h.nbitsLe

section
variable {S : State} (h : Decoding S) (line : Level) (post : State)
include h

/-- 6 bits hold the bits a flip assembles. -/
theorem Decoding.flip_nbits : (flipWrites S line post).nbits.toNat = (flipAssembly S).2 :=
  Nat.mod_eq_of_lt (h.flip_bits_le.trans_lt (by decide))

/-- 7 bits hold the windows a flip completes. -/
theorem Decoding.flip_win : (flipWrites S line post).win.toNat = S.win.toNat + 1 := by
  have ⟨_, _, _, windowsFit, _⟩ := h.legal
  have := h.winLt
  exact Nat.mod_eq_of_lt (by omega)

end

theorem decoding_flipWrites {S : State} (h : Decoding S) (notLast : S.win.toNat + 1 ≠ S.params.max_windows) (line : Level)
    (thr : Byte) : Decoding (flipWrites S line (S.beginStep.setCfgThr thr)) where
  toSampling := sampling_flipWrites h.toSampling line thr
  cleared := h.cleared
  nbitsLe := by rw [h.flip_nbits]; exact h.flip_bits_le
  winLt := by rw [h.flip_win]; exact lt_of_le_of_ne h.winLt notLast

/-- The flip that completes window MAX_WINDOWS − 1 completes the acquisition (42_edge_sampling.md R144). -/
theorem step_lastFlip {S : State} (h : Decoding S) (flip : currentLine S ≠ S.prev)
    (last : S.win.toNat + 1 = S.params.max_windows) :
    ∃ t, step S = .next t ∧ Decoded (flipAssembly S) (S.win.toNat + 1) t := by
  obtain ⟨thr, hstep⟩ := step_sample h.runs h.sample
  rw [sampleStep_of_ne flip, flipSample, if_pos last] at hstep
  have decoded := decoded_evaluate (s := flipWrites S (currentLine S) (S.beginStep.setCfgThr thr)) h.cleared
    (by rw [h.flip_nbits]; exact h.flip_bits_le)
  rw [h.flip_nbits, h.flip_win] at decoded
  exact ⟨_, hstep, decoded⟩

/-- The level held after the last completed window completes the acquisition (42_edge_sampling.md R142). -/
theorem samplesUntil_heldLevel {S : State} (h : Decoding S) {k : Nat} {ls : List Level}
    (queue : S.line_in = List.replicate (k + 1) S.prev ++ ls) (last : S.spin.toNat + k + 1 = S.params.max_spin) :
    SamplesUntil S (k + 1) (Decoded (S.shift, S.nbits.toNat) S.win.toNat) :=
  samplesUntil_abort h.toSampling queue last fun thr =>
    decoded_evaluate (s := (S.extendWindow k thr).beginStep) h.cleared h.nbitsLe

/-- What a flip hands to `assemble` after a run: the duration of the window, the run included. -/
theorem flipAssembly_extendWindow {S : State} (legal : S.params.Legal) {k : Nat}
    (below : S.spin.toNat + k < S.params.max_spin) (thr : Byte) :
    flipAssembly (S.extendWindow k thr) =
      assemble S.params S.win.toNat S.prev (S.spin.toNat + k) S.shift S.nbits.toNat S.thr_act :=
  congrArg (assemble S.params S.win.toNat S.prev · S.shift S.nbits.toNat S.thr_act)
    (extendWindow_spin_toNat legal below thr)

/-- The rest of a window and the flip that completes it, which is the last of the acquisition. -/
theorem samplesUntil_lastWindow {S : State} (h : Decoding S) {k : Nat} {ls : List Level}
    (queue : S.line_in = List.replicate k S.prev ++ S.prev.flip :: ls)
    (below : S.spin.toNat + k < S.params.max_spin) (last : S.win.toNat + 1 = S.params.max_windows) :
    SamplesUntil S (k + 1)
      (Decoded (assemble S.params S.win.toNat S.prev (S.spin.toNat + k) S.shift S.nbits.toNat S.thr_act)
        (S.win.toNat + 1)) := by
  refine samplesUntil_extendWindow h.toSampling queue below fun thr => ?_
  have line := currentLine_of_cons (extendWindow_line_in queue thr)
  obtain ⟨t, hstep, decoded⟩ := step_lastFlip (decoding_extendWindow h k thr) (line ▸ flip_ne S.prev) last
  rw [flipAssembly_extendWindow h.legal below] at decoded
  exact samplesUntil_last h.sample hstep decoded

/-- The state at the first sample of the next window: the current one ends after `k` further samples. -/
def State.nextWindow (S : State) (k : Nat) (thr : Byte) : State :=
  flipWrites (S.extendWindow k thr) S.prev.flip (S.extendWindow k thr).beginStep

/-- The rest of a window and the flip that completes it, which leaves windows to complete. -/
theorem samplesUntil_nextWindow {S : State} (h : Decoding S) {k n : Nat} {ls : List Level} {Q : State → Prop}
    (queue : S.line_in = List.replicate k S.prev ++ S.prev.flip :: ls)
    (below : S.spin.toNat + k < S.params.max_spin) (notLast : S.win.toNat + 1 ≠ S.params.max_windows)
    (after : ∀ thr, SamplesUntil (S.nextWindow k thr) n Q) : SamplesUntil S (k + (n + 1)) Q := by
  refine samplesUntil_extendWindow h.toSampling queue below fun thr => ?_
  have line := currentLine_of_cons (extendWindow_line_in queue thr)
  obtain ⟨thr', hstep⟩ := step_flip (sampling_extendWindow h.toSampling k thr) (line ▸ flip_ne S.prev) notLast
  rw [line] at hstep
  exact samplesUntil_step h.sample hstep (after thr')

/-- The registers at the first sample of the next window. -/
theorem nextWindow_assembly {S : State} (h : Decoding S) {k : Nat} (below : S.spin.toNat + k < S.params.max_spin)
    (thr : Byte) :
    ((S.nextWindow k thr).shift, (S.nextWindow k thr).nbits.toNat) =
      assemble S.params S.win.toNat S.prev (S.spin.toNat + k) S.shift S.nbits.toNat S.thr_act := by
  rw [State.nextWindow, (decoding_extendWindow h k thr).flip_nbits, flipWrites_shift,
    flipAssembly_extendWindow h.legal below]

theorem nextWindow_win {S : State} (h : Decoding S) (k : Nat) (thr : Byte) :
    (S.nextWindow k thr).win.toNat = S.win.toNat + 1 :=
  (decoding_extendWindow h k thr).flip_win _ _

theorem nextWindow_line_in {S : State} {k : Nat} {l : Level} {ls : List Level}
    (queue : S.line_in = List.replicate k S.prev ++ l :: ls) (thr : Byte) : (S.nextWindow k thr).line_in = ls :=
  congrArg List.tail (extendWindow_line_in queue thr)

theorem decoding_nextWindow {S : State} (h : Decoding S) (notLast : S.win.toNat + 1 ≠ S.params.max_windows) (k : Nat)
    (thr : Byte) : Decoding (S.nextWindow k thr) :=
  decoding_flipWrites (decoding_extendWindow h k thr) notLast _ _

/-- The samples taken in the current window and those queued are the trace's from this window on: they are decoded as the
fold of `assemble` over the durations. -/
theorem samplesUntil_decoded {S : State} {ds : List Nat} {rest : List Level} {n : Nat} (h : Decoding S)
    (spinLt : S.spin.toNat < S.params.max_spin) (trace : TraceFrom S.params S.win.toNat S.spin.toNat ds)
    (queue : List.replicate S.spin.toNat S.prev ++ S.line_in = samplesFrom S.params S.win.toNat S.prev ds ++ rest)
    (count : S.spin.toNat + n = (samplesFrom S.params S.win.toNat S.prev ds).length) :
    SamplesUntil S n
      (Decoded (assembleWindows S.params S.thr_act S.win.toNat S.prev (S.shift, S.nbits.toNat) ds)
        (S.win.toNat + ds.length)) := by
  induction ds generalizing S n with
  | nil =>
    rw [samplesFrom_nil h.winLt.ne] at queue count
    rw [List.length_replicate] at count
    obtain ⟨k, rfl⟩ : ∃ k, n = k + 1 := Nat.exists_eq_add_one.mpr (by omega)
    have queue := eq_of_replicate_append_eq spinLt.le queue
    rw [← count, Nat.add_sub_cancel_left] at queue
    exact samplesUntil_heldLevel h queue count
  | cons d ds ih =>
    obtain ⟨k, rfl⟩ : ∃ k, d = S.spin.toNat + k := Nat.exists_eq_add_of_le (trace.begun d rfl)
    have below : S.spin.toNat + k < S.params.max_spin := trace.below _ List.mem_cons_self
    obtain ⟨ls, next⟩ := samplesFrom_eq_cons trace.tail (Nat.zero_lt_of_lt below) S.prev.flip
    rw [samplesFrom_cons, next] at queue count
    obtain rfl : n = k + (ls.length + 1) := by
      simp only [List.length_append, List.length_replicate, List.length_cons] at count; omega
    rw [List.append_assoc] at queue
    have queue := eq_of_replicate_append_eq (Nat.le_add_right _ _) queue
    rw [Nat.add_sub_cancel_left] at queue
    by_cases last : S.win.toNat + 1 = S.params.max_windows
    · obtain rfl : ds = [] := List.eq_nil_of_length_eq_zero (by have := trace.tail.windows; omega)
      rw [samplesFrom_last last, List.cons.injEq] at next
      obtain ⟨-, rfl⟩ := next
      exact samplesUntil_lastWindow h queue below last
    · refine samplesUntil_nextWindow h queue below last fun thr => ?_
      have started := ih (S := S.nextWindow k thr) (n := ls.length) (decoding_nextWindow h last k thr)
      rw [nextWindow_win h, nextWindow_assembly h below, nextWindow_line_in queue, Nat.add_right_comm] at started
      have ⟨_, _, _, _, spinMin, _⟩ := h.legal
      have samples : (samplesFrom S.params (S.win.toNat + 1) S.prev.flip ds).length = 1 + ls.length := by
        rw [next, List.length_cons, Nat.add_comm]
      exact started spinMin trace.tail (congrArg (· ++ rest) next.symm) samples.symm

/-- Settles O54: at the first SAMPLE state no sample of window 0 is taken, and the queue holds the whole trace. -/
theorem samplingDecodesTheRunLengths : Obligations.SamplingDecodesTheRunLengths := by
  intro S ds rest legal sample win spin prev shift nbits cleared noReset valid queue
  have winZero : S.win.toNat = 0 := by rw [win]; rfl
  have spinZero : S.spin.toNat = 0 := by rw [spin]; rfl
  have nbitsZero : S.nbits.toNat = 0 := by rw [nbits]; rfl
  have h : Decoding S :=
    { legal, sample, noReset, cleared,
      nbitsLe := nbitsZero.trans_le (Nat.zero_le _), winLt := winZero.trans_lt (windows_pos legal) }
  have ⟨_, _, _, _, spinMin, _⟩ := legal
  have decoded := samplesUntil_decoded (ds := ds) (rest := rest) (n := (samplesOf S.params ds).length) h (by omega)
  rw [winZero, spinZero, prev, shift, nbitsZero, Nat.zero_add ds.length, ← samplesOf_eq_samplesFrom] at decoded
  exact decoded (traceFrom_of_validTrace valid) queue (Nat.zero_add _)

end Sys2Proof.Machine
end

section
/-! Classification and frame assembly (43_frame_assembly.md): the functions of a completed window (O41, O42, O43), and what every
step keeps of the registers `shift` and `nbits` (O44). -/

namespace Sys2Proof.Machine

/-! ### A completed window -/

/-- Settles O41. -/
theorem dataWindowRule : Obligations.DataWindowRule := fun _ _ _ => dataWindow_iff

theorem classify_eq_true_iff {d : Nat} {thr : Byte} : classify d thr = true ↔ thr.toNat < d := decide_eq_true_iff

theorem classify_eq_false_iff {d : Nat} {thr : Byte} : classify d thr = false ↔ d ≤ thr.toNat :=
  decide_eq_false_iff_not.trans Nat.not_lt

/-- Settles O42: the corner cases are the comparison at a tie, at 255 and at 0. -/
theorem bitIsOneAboveTheThreshold : Obligations.BitIsOneAboveTheThreshold := fun _ _ =>
  ⟨classify_eq_true_iff, fun tie => classify_eq_false_iff.2 tie.le,
    fun short => classify_eq_false_iff.2 (Nat.le_succ_of_le short), fun pos => classify_eq_true_iff.2 pos⟩

/-- Settles O43: `assemble` keeps `(shift, nbits)`, for want of a data window or of room, or shifts the bit in. -/
theorem assemblyShiftsInUntilFull : Obligations.AssemblyShiftsInUntilFull := by
  intro p w lvl d shift nbits thr
  obtain ⟨noData, e⟩ | ⟨full, e⟩ | ⟨data, notFull, e⟩ := assemble_cases (p := p) (w := w) (lvl := lvl) (d := d)
    (shift := shift) (nbits := nbits) (thr := thr)
  · exact ⟨fun _ => e, fun _ => e, assemble_bits_le, fun data => absurd (noData.symm.trans data) Bool.false_ne_true⟩
  · exact ⟨fun _ => e, fun _ => e, assemble_bits_le, fun _ notFull => absurd full notFull⟩
  · refine ⟨fun noData => absurd (noData.symm.trans data) Bool.false_ne_true, fun full => absurd full notFull,
      assemble_bits_le, fun _ _ => ?_⟩
    rw [e]
    exact ⟨rfl, shiftIn_toNat _ _⟩

/-! ### The registers `shift` and `nbits` -/

/-- `shift` holds `nbits` bits, at most 40 of them. -/
def HoldsBits (s : State) : Prop := s.nbits.toNat ≤ frameBits ∧ s.shift.toNat < 2 ^ s.nbits.toNat

theorem holdsBits_of_no_bits {s : State} (shift : s.shift = 0#40) (nbits : s.nbits = 0#6) : HoldsBits s := by
  simp [HoldsBits, shift, nbits]

theorem holdsBits_congr {s t : State} (h : HoldsBits s) (shift : t.shift = s.shift) (nbits : t.nbits = s.nbits) :
    HoldsBits t := by
  rwa [HoldsBits, shift, nbits]

/-- A flip alone writes the two registers, with what it assembles (42_edge_sampling.md R143). -/
theorem phaseAction_assembly (S : State) (line : Level) (post : State) :
    ((phaseAction S line post).shift = post.shift ∧ (phaseAction S line post).nbits = post.nbits) ∨
    ((phaseAction S line post).shift = (flipAssembly S).1 ∧
      (phaseAction S line post).nbits = BitVec.ofNat 6 (flipAssembly S).2) := by
  obtain ⟨-, e⟩ | ⟨-, -, e⟩ | ⟨-, -, e⟩ | ⟨-, -, e⟩ | ⟨-, -, e⟩ | ⟨-, -, e⟩ | ⟨-, -, -, e⟩ | ⟨-, -, e⟩ | ⟨-, -, -, e⟩ :=
    phaseAction_cases S line post <;> rw [e]
  · exact .inl ⟨rfl, rfl⟩
  · exact .inl ⟨rfl, rfl⟩
  · exact .inl ⟨rfl, rfl⟩
  · exact .inl ⟨rfl, rfl⟩
  · exact .inl ⟨rfl, rfl⟩
  · exact .inl ⟨evaluate_shift .., evaluate_nbits ..⟩
  · exact .inl ⟨rfl, rfl⟩
  · exact .inr ⟨evaluate_shift .., evaluate_nbits ..⟩
  · exact .inr ⟨rfl, rfl⟩

theorem holdsBits_phaseAction {S : State} (h : HoldsBits S) (line : Level) :
    HoldsBits (phaseAction S line S.beginStep) := by
  obtain ⟨shift, nbits⟩ | ⟨shift, nbits⟩ := phaseAction_assembly S line S.beginStep
  · exact holdsBits_congr h shift nbits
  · obtain ⟨nbitsLe, shiftLt⟩ := h
    have bitsLe : (flipAssembly S).2 ≤ frameBits := assemble_bits_le nbitsLe
    have untruncated : (BitVec.ofNat 6 (flipAssembly S).2).toNat = (flipAssembly S).2 :=
      Nat.mod_eq_of_lt (bitsLe.trans_lt (by decide))
    rw [HoldsBits, shift, nbits, untruncated]
    exact ⟨bitsLe, assemble_shift_lt shiftLt⟩

/-- Settles O44: reset and an accepted ACQUIRE clear the two registers, and no other step but a flip writes them. -/
theorem nbitsNeverExceedsForty : Obligations.NbitsNeverExceedsForty := by
  intro S t nbitsLe shiftLt hstep
  have h : HoldsBits S := ⟨nbitsLe, shiftLt⟩
  suffices HoldsBits t from this
  obtain ⟨-, rfl⟩ | ⟨runs, rfl⟩ := step_next_cases hstep
  · exact holdsBits_of_no_bits rfl rfl
  obtain ⟨-, -, e⟩ | ⟨-, -, v, e⟩ | ⟨-, v, e⟩ := stepWrites_cases runs <;> rw [e]
  · exact holdsBits_of_no_bits rfl rfl
  · exact holdsBits_congr h rfl rfl
  · exact holdsBits_congr (holdsBits_phaseAction h _) rfl rfl

end Sys2Proof.Machine
end

section
/-! What the host can change of a running acquisition: nothing but `cfg_thr` (O56). -/

namespace Sys2Proof.Machine

/-- The state at another `cfg_thr`, with other host inputs queued. -/
def State.setHost (s : State) (thr : Byte) (hs : List HostInput) : State := { s with cfg_thr := thr, host_in := hs }

section
variable (S : State) (line : Level) (post : State) (thr thr' : Byte) (hs hs' : List HostInput)

theorem ite_setHost (c : Prop) [Decidable c] (s t : State) :
    (if c then s else t).setHost thr hs = if c then s.setHost thr hs else t.setHost thr hs :=
  apply_ite (State.setHost · thr hs) c s t

theorem evaluate_setHost (n : Nat) (f : FrameWord) (W : Nat) :
    evaluate n f W (post.setHost thr hs) = (evaluate n f W post).setHost thr hs := by
  rw [evaluate_eq, evaluate_eq]
  rfl

theorem equalSample_setHost :
    equalSample (S.setHost thr hs) (post.setHost thr' hs') = (equalSample S post).setHost thr' hs' := by
  rw [equalSample, equalSample, ite_setHost, evaluate_setHost]
  rfl

theorem flipSample_setHost :
    flipSample (S.setHost thr hs) line (post.setHost thr' hs') = (flipSample S line post).setHost thr' hs' := by
  rw [flipSample, flipSample, ite_setHost, ← evaluate_setHost]
  rfl

/-- A phase action reads neither `cfg_thr` nor the host's queue, in the pre-state or in what the command part left. -/
theorem phaseAction_setHost :
    phaseAction (S.setHost thr hs) line (post.setHost thr' hs') = (phaseAction S line post).setHost thr' hs' := by
  cases phase : S.phase with
  | idle => rw [phaseAction_idle _ _ phase, phaseAction_idle _ _ (by exact phase)]
  | startLow =>
    rw [phaseAction_startLow _ _ phase, phaseAction_startLow _ _ (by exact phase), startLowStep, startLowStep, ite_setHost]
    rfl
  | startHigh =>
    rw [phaseAction_startHigh _ _ phase, phaseAction_startHigh _ _ (by exact phase), startHighStep, startHighStep,
      ite_setHost]
    rfl
  | sample =>
    rw [phaseAction_sample _ _ phase, phaseAction_sample _ _ (by exact phase), sampleStep, sampleStep, ite_setHost,
      equalSample_setHost, flipSample_setHost]
    rfl

end

/-- Of a busy step, the host's inputs decide `cfg_thr` alone. -/
theorem stepWrites_setHost {S : State} (busy : S.phase ≠ .idle) (thr : Byte) (hs : List HostInput) :
    ∃ thr' : Byte, stepWrites (S.setHost thr hs) = (stepWrites S).setHost thr' hs.tail := by
  refine ⟨(stepWrites (S.setHost thr hs)).cfg_thr, ?_⟩
  calc stepWrites (S.setHost thr hs)
      = (phaseAction (S.setHost thr hs) (currentLine S) (S.beginStep.setHost thr hs.tail)).setCfgThr
          (stepWrites (S.setHost thr hs)).cfg_thr := stepWrites_eq_phaseAction_beginStep (S := S.setHost thr hs) busy
    _ = (phaseAction S (currentLine S) S.beginStep).setHost (stepWrites (S.setHost thr hs)).cfg_thr hs.tail := by
      rw [phaseAction_setHost]
      rfl
    _ = (stepWrites S).setHost (stepWrites (S.setHost thr hs)).cfg_thr hs.tail := by
      rw [stepWrites_eq_phaseAction_beginStep busy]
      rfl

/-- Two runs that differ in `cfg_thr` and the host's inputs differ in nothing else while the acquisition runs. -/
theorem runSteps_setHost {k : Nat} {S : State} (thr : Byte) {hs : List HostInput} (legal : S.params.Legal)
    (noReset : NoReset S) (noReset' : ∀ h ∈ hs, h.rst = false)
    (busy : ∀ j, j < k → ∃ u, runSteps j S = .next u ∧ u.phase ≠ .idle) :
    ∃ (t : State) (thr' : Byte), runSteps k S = .next t ∧
      runSteps k (S.setHost thr hs) = .next (t.setHost thr' (hs.drop k)) := by
  induction k generalizing S thr hs with
  | zero => exact ⟨S, thr, rfl, rfl⟩
  | succ k ih =>
    have hstep : step S = .next (stepWrites S) := step_runs (runsCommand_of_noReset legal noReset)
    have busyNow : S.phase ≠ .idle := by
      obtain ⟨_, run, busyNow⟩ := busy 0 k.succ_pos
      cases run
      exact busyNow
    obtain ⟨thr₁, written⟩ := stepWrites_setHost busyNow thr hs
    have hstep' : step (S.setHost thr hs) = .next ((stepWrites S).setHost thr₁ hs.tail) :=
      written ▸ step_runs (runsCommand_of_noReset (S := S.setHost thr hs) legal noReset')
    have busyNext : ∀ j, j < k → ∃ u, runSteps j (stepWrites S) = .next u ∧ u.phase ≠ .idle := fun j lt =>
      runSteps_step hstep ▸ busy (j + 1) (Nat.succ_lt_succ lt)
    have legalNext : (stepWrites S).params.Legal := (stepWrites_params S).symm ▸ legal
    obtain ⟨t, thr', run, run'⟩ := ih thr₁ legalNext (noReset_stepWrites noReset)
      (fun h mem => noReset' h (List.mem_of_mem_tail mem)) busyNext
    exact ⟨t, thr', (runSteps_step hstep).trans run, by rw [runSteps_step hstep', run', List.drop_tail]⟩

/-- Settles O56. The two runs take the same samples, queued or free: the state but for `cfg_thr` and the host's queue decides
them. -/
theorem decodingDependsOnTheTraceAlone : Obligations.DecodingDependsOnTheTraceAlone :=
  fun _ _ thr _ legal noReset noReset' _ busy => runSteps_setHost thr legal noReset noReset' busy

end Sys2Proof.Machine
end

section
/-! What an evaluation decides and publishes (44_checksum_validator.md; O46, O47, O48, O49, O50), and that no other step of an
acquisition touches the results (O51). -/

namespace Sys2Proof.Machine

/-! ### The outcome of a full frame -/

section
variable (p : Params) {f : FrameWord} (W : Nat)

theorem outcomeOf_of_checksum_ne (wrong : checksum f ≠ (byte4 f).toNat) :
    outcomeOf p frameBits f W = .checksumMismatch := by
  rw [outcomeOf, if_neg (Nat.lt_irrefl _), if_pos wrong]

theorem outcomeOf_of_implausible (right : checksum f = (byte4 f).toNat) (zero : byte0 f = 0#8 ∧ byte2 f = 0#8) :
    outcomeOf p frameBits f W = .implausibleFrame := by
  rw [outcomeOf, if_neg (Nat.lt_irrefl _), if_neg (not_not_intro right), if_pos zero]

theorem outcomeOf_of_plausible (right : checksum f = (byte4 f).toNat) (nonzero : byte0 f ≠ 0#8 ∨ byte2 f ≠ 0#8) :
    outcomeOf p frameBits f W = .success := by
  rw [outcomeOf, if_neg (Nat.lt_irrefl _), if_neg (not_not_intro right), if_neg (not_and_or.2 nonzero)]

end

/-! ### What is published and what is kept -/

section
variable {n : Nat} (f : FrameWord) (W : Nat) (post : State)

theorem evaluate_frame_of_full :
    (evaluate frameBits f W post).frame_pub = f ∧ (evaluate frameBits f W post).frame_valid = true := by
  rw [evaluate_frame_pub, evaluate_frame_valid, if_neg (Nat.lt_irrefl _), if_neg (Nat.lt_irrefl _)]
  exact ⟨rfl, rfl⟩

theorem evaluate_frame_of_incomplete (part : n < frameBits) :
    (evaluate n f W post).frame_pub = post.frame_pub ∧ (evaluate n f W post).frame_valid = post.frame_valid := by
  rw [evaluate_frame_pub, evaluate_frame_valid, if_pos part, if_pos part]
  exact ⟨rfl, rfl⟩

variable {f W post}

theorem evaluate_reading_of_ne_success (failed : outcomeOf post.params n f W ≠ .success) :
    (evaluate n f W post).reading_valid = post.reading_valid ∧ (evaluate n f W post).hum_tenths = post.hum_tenths ∧
      (evaluate n f W post).temp_tenths = post.temp_tenths := by
  rw [evaluate_reading_valid, evaluate_hum_tenths, evaluate_temp_tenths, if_neg failed, if_neg failed, if_neg failed]
  exact ⟨rfl, rfl, rfl⟩

theorem evaluate_reading_of_success (success : outcomeOf post.params n f W = .success) :
    (evaluate n f W post).reading_valid = true ∧ (evaluate n f W post).hum_tenths = tenthsOf (byte0 f) (byte1 f) ∧
      (evaluate n f W post).temp_tenths = tenthsOf (byte2 f) (byte3 f) := by
  rw [evaluate_reading_valid, evaluate_hum_tenths, evaluate_temp_tenths, if_pos success, if_pos success, if_pos success]
  exact ⟨rfl, rfl, rfl⟩

end

/-! ### The table of R191 -/

section
variable {post : State} {n : Nat} {f : FrameWord} {W : Nat} {o : DecodeOutcome}

/-- The rows of fewer than 40 bits: no frame, no reading. -/
theorem evaluate_row_of_incomplete (cleared : ResultsCleared post) (part : n < frameBits)
    (row : (if W < post.params.ack_windows + frameBits then .insufficientBits else .timeout) = o) :
    (evaluate n f W post).outcome = o ∧ (evaluate n f W post).frame_valid = false ∧
      (evaluate n f W post).reading_valid = false := by
  obtain ⟨-, -, noFrame, noReading, -⟩ := cleared
  have outcome := outcomeOf_incomplete (p := post.params) (f := f) (W := W) part
  have failed : outcomeOf post.params n f W ≠ .success := by rw [outcome]; split <;> decide
  exact ⟨(evaluate_outcome ..).trans (outcome.trans row), (evaluate_frame_of_incomplete f W post part).2.trans noFrame,
    (evaluate_reading_of_ne_success failed).1.trans noReading⟩

/-- The failing rows of a full frame: the frame is published, no reading. -/
theorem evaluate_row_of_failure (cleared : ResultsCleared post) (row : outcomeOf post.params frameBits f W = o)
    (failed : o ≠ .success) :
    (evaluate frameBits f W post).outcome = o ∧ (evaluate frameBits f W post).frame_valid = true ∧
      (evaluate frameBits f W post).reading_valid = false := by
  obtain ⟨-, -, -, noReading, -⟩ := cleared
  exact ⟨(evaluate_outcome ..).trans row, (evaluate_frame_of_full f W post).2,
    (evaluate_reading_of_ne_success (row ▸ failed)).1.trans noReading⟩

end

/-- Settles O46: the two rows of an incomplete acquisition differ in the number of windows, those of a full frame in the first
check that fails. -/
theorem outcomeTable : Obligations.OutcomeTable := by
  intro n f W post cleared _ t sum
  refine ⟨fun part few => ?_, fun part many => ?_, ?_, ?_, ?_⟩
  · exact evaluate_row_of_incomplete cleared part (if_pos few)
  · exact evaluate_row_of_incomplete cleared part (if_neg (Nat.not_lt.2 many))
  · rintro rfl wrong
    exact evaluate_row_of_failure cleared (outcomeOf_of_checksum_ne _ _ wrong) (by decide)
  · rintro rfl right zero0 zero2
    exact evaluate_row_of_failure cleared (outcomeOf_of_implausible _ _ right ⟨zero0, zero2⟩) (by decide)
  · rintro rfl right nonzero
    have success := outcomeOf_of_plausible post.params W right nonzero
    exact ⟨(evaluate_outcome ..).trans success, (evaluate_frame_of_full f W post).2,
      (evaluate_reading_of_success success).1⟩

/-- Settles O47: 6 bits hold the number of bits and 7 bits that of windows; the rest is what an evaluation publishes and
keeps. -/
theorem evaluationFrame : Obligations.EvaluationFrame := by
  intro n f W post bitsLe windowsLe t
  have bits : t.nbits_out.toNat = n := by
    rw [evaluate_nbits_out]
    exact Nat.mod_eq_of_lt (bitsLe.trans_lt (by decide))
  have windows : t.nwin_out.toNat = W := by
    rw [evaluate_nwin_out]
    exact Nat.mod_eq_of_lt (windowsLe.trans_lt (by decide))
  refine ⟨evaluate_phase .., evaluate_done .., bits, windows, ?_, evaluate_frame_of_incomplete f W post, fun failed => ?_,
    evaluate_tcount .., evaluate_win .., evaluate_spin .., evaluate_prev .., evaluate_cfg_thr .., evaluate_thr_act ..,
    evaluate_shift .., evaluate_nbits .., evaluate_params .., evaluate_host_in .., evaluate_line_in .., evaluate_tick ..⟩
  · rintro rfl
    exact evaluate_frame_of_full f W post
  · exact evaluate_reading_of_ne_success (evaluate_outcome n f W post ▸ failed)

/-! ### The checksum -/

/-- Settles O48: an 8-bit sum drops its carry at each addition, the sum of naturals once at the end. -/
theorem checksumIsTheSumModulo256 : Obligations.ChecksumIsTheSumModulo256 := by
  refine fun f => ⟨rfl, ?_⟩
  simp only [checksum, BitVec.toNat_add, Nat.mod_add_mod, Nat.reducePow]

/-- The checksum reads the four data bytes alone. -/
theorem checksum_congr {f g : FrameWord} (h0 : byte0 g = byte0 f) (h1 : byte1 g = byte1 f) (h2 : byte2 g = byte2 f)
    (h3 : byte3 g = byte3 f) : checksum g = checksum f := by
  rw [checksum, checksum, h0, h1, h2, h3]

/-- Settles O49: the data bytes fix the one checksum byte that matches, and a mismatch makes no reading. -/
theorem everyWrongChecksumByteIsCaught : Obligations.EveryWrongChecksumByteIsCaught := by
  intro f g W post right h0 h1 h2 h3 other
  have wrong : checksum g ≠ (byte4 g).toNat := fun alsoRight =>
    other (BitVec.eq_of_toNat_eq (alsoRight.symm.trans ((checksum_congr h0 h1 h2 h3).trans right)))
  have mismatch := outcomeOf_of_checksum_ne post.params W wrong
  exact ⟨(evaluate_outcome ..).trans mismatch, evaluate_reading_of_ne_success (by simp [mismatch])⟩

/-! ### The reading -/

/-- A reading in tenths is at most 10 · 255 + 255. -/
theorem tenths_le (int frac : Byte) : 10 * int.toNat + frac.toNat ≤ 2805 := by
  have := int.isLt
  have := frac.isLt
  omega

/-- 12 bits hold a reading in tenths (30_encoding.md R81). -/
theorem tenthsOf_toNat (int frac : Byte) : (tenthsOf int frac).toNat = 10 * int.toNat + frac.toNat :=
  Nat.mod_eq_of_lt ((tenths_le int frac).trans_lt (by decide))

/-- Settles O50: the last row of the table, whose readings never exceed their 12 bits. -/
theorem readingIsExactInTenths : Obligations.ReadingIsExactInTenths := by
  intro f W post right nonzero t
  have success := outcomeOf_of_plausible post.params W right nonzero
  obtain ⟨valid, hum, temp⟩ := evaluate_reading_of_success success
  have humExact : t.hum_tenths.toNat = 10 * (byte0 f).toNat + (byte1 f).toNat := hum ▸ tenthsOf_toNat _ _
  have tempExact : t.temp_tenths.toNat = 10 * (byte2 f).toNat + (byte3 f).toNat := temp ▸ tenthsOf_toNat _ _
  exact ⟨(evaluate_outcome ..).trans success, valid, humExact, humExact ▸ tenths_le _ _, tempExact,
    tempExact ▸ tenths_le _ _⟩

/-! ### The results between completions -/

/-- Both states publish the same results. -/
def SameResults (s t : State) : Prop :=
  t.outcome = s.outcome ∧ t.frame_pub = s.frame_pub ∧ t.frame_valid = s.frame_valid ∧
  t.reading_valid = s.reading_valid ∧ t.hum_tenths = s.hum_tenths ∧ t.temp_tenths = s.temp_tenths ∧
  t.nbits_out = s.nbits_out ∧ t.nwin_out = s.nwin_out

theorem sameResults_refl (s : State) : SameResults s s := ⟨rfl, rfl, rfl, rfl, rfl, rfl, rfl, rfl⟩

/-- Of the phase actions an evaluation alone writes the results. -/
theorem sameResults_phaseAction {S : State} {line : Level} (running : ¬ Completes S line) (post : State) :
    SameResults post (phaseAction S line post) := by
  obtain ⟨-, e⟩ | ⟨-, -, e⟩ | ⟨-, -, e⟩ | ⟨-, -, e⟩ | ⟨-, -, e⟩ | ⟨sample, aborts, e⟩ | ⟨-, -, -, e⟩ |
    ⟨sample, ends, e⟩ | ⟨-, -, -, e⟩ := phaseAction_cases S line post <;> rw [e]
  · exact sameResults_refl post
  · exact sameResults_refl post
  · exact sameResults_refl post
  · exact sameResults_refl post
  · exact sameResults_refl post
  · exact absurd ⟨sample, .inl aborts⟩ running
  · exact sameResults_refl post
  · exact absurd ⟨sample, .inr ends⟩ running
  · exact sameResults_refl post

/-- Settles O51: of the commands an accepted ACQUIRE alone writes the results. -/
theorem resultsPersistUntilCleared : Obligations.ResultsPersistUntilCleared := by
  intro S t hstep runs notAccepted running
  rw [step_runs runs] at hstep
  cases hstep
  suffices SameResults S (stepWrites S) from this
  obtain ⟨idle, acquire, -⟩ | ⟨-, -, v, e⟩ | ⟨-, v, e⟩ := stepWrites_cases runs
  · exact absurd ⟨runs, acquire, idle⟩ notAccepted
  · rw [e]
    exact sameResults_refl S
  · rw [e]
    exact sameResults_phaseAction running S.beginStep

end Sys2Proof.Machine
end

section
/-! What the block does not do: fault (O13), drive the wire outside the start sequence (O22), leave IDLE on its own (O27);
60_exceptions.md R220, R227, R230. -/

namespace Sys2Proof.Machine

/-! ### No step faults -/

/-- A legal elaboration answers every step: it resets, or it runs a command. -/
theorem step_answers_of_legal {S : State} (legal : S.params.Legal) : ∃ t, step S = .next t := by
  cases rst : (currentHost S).rst with
  | true => exact ⟨_, step_resets ⟨legal, rst⟩⟩
  | false => exact ⟨_, step_runs ⟨legal, rst⟩⟩

/-- Settles O13: every command answers `commandWrites`, and the ranges are those of a legal elaboration. -/
theorem nothingFaults : Obligations.NothingFaults := by
  refine ⟨fun i s => ⟨_, exec_eq i s⟩, ?_⟩
  intro S p numPos denPos tcwPos lowPos lowFits highPos highFits lowLasts windowsAdmitFrame windowsFit spinMin spinFits
    ackEven ackMax
  have start : p.StartLegal := ⟨tcwPos, lowPos, lowFits, highPos, highFits, lowLasts⟩
  have sampling : p.SamplingLegal := ⟨windowsAdmitFrame, windowsFit, spinMin, spinFits, ackEven, ackMax⟩
  exact step_answers_of_legal ⟨⟨numPos, denPos⟩, start, sampling⟩

/-! ### The wire -/

theorem wireLevel_driven {s : State} (driven : lineOe s = true) (sensor : Level) :
    wireLevel s sensor = Level.ofBit (lineOut s) :=
  if_pos driven

theorem wireLevel_released {s : State} (released : lineOe s = false) (sensor : Level) : wireLevel s sensor = sensor :=
  if_neg (Bool.eq_false_iff.mp released)

/-- Settles O22: the pad drives the wire in the two start phases, with `line_out` 1 in START_HIGH alone. -/
theorem wireIsDrivenInTheStartSequenceOnly : Obligations.WireIsDrivenInTheStartSequenceOnly := by
  intro s sensor
  obtain ⟨-, drives, drivesHigh, -⟩ := outputsFollowThePhase s
  refine ⟨fun low => ?_, fun high => ?_, fun idleOrSample => ?_⟩
  · have lineOutLow : lineOut s = false := Bool.eq_false_iff.mpr (by simp [drivesHigh, low])
    rw [wireLevel_driven (drives.mpr (.inl low)), lineOutLow]
    rfl
  · rw [wireLevel_driven (drives.mpr (.inr high)), drivesHigh.mpr high]
    rfl
  · have released : lineOe s = false := Bool.eq_false_iff.mpr (by
      obtain idle | sample := idleOrSample
      · simp [drives, idle]
      · simp [drives, sample])
    exact wireLevel_released released sensor

/-! ### Waiting in IDLE -/

theorem currentCommand_ne_acquire {S : State} (noAcquire : presentsAcquire S = false) (a : Byte) :
    currentCommand S ≠ .acquire a := fun isAcquire =>
  Bool.false_ne_true (noAcquire.symm.trans (presentsAcquire_iff.2 ⟨a, isAcquire⟩))

/-- Settles O27: in IDLE the step is its command part, which writes `cfg_thr` alone, and only for SET_THRESHOLD. -/
theorem idleWaits : Obligations.IdleWaits := by
  intro S runs idle noAcquire
  have waits : stepWrites S = S.beginStep.setCfgThr (commandWrites (currentCommand S) S.beginStep).cfg_thr :=
    (stepWrites_idle idle).trans (commandWrites_eq_setCfgThr (.inl (currentCommand_ne_acquire noAcquire)))
  refine ⟨_, ?_, fun notSet => commandWrites_cfg_thr notSet S.beginStep⟩
  rw [step_runs runs, waits]
  rfl

end Sys2Proof.Machine
end

section
/-! Reset and hazards (70_reset_and_hazards.md): a reset step (O10), a threshold set just before an ACQUIRE (O29), a whole
acquisition (O55) and the quiescent interval (O57). -/

namespace Sys2Proof.Machine

/-! ### The input at the head of the host's queue -/

section
variable {S : State} {hs : List HostInput}

theorem currentHost_of_cons {h : HostInput} (queue : S.host_in = h :: hs) : currentHost S = h := by
  simp only [currentHost, queue]

theorem currentCommand_ofCommand {i : Instr} (queue : S.host_in = HostInput.ofCommand i :: hs) : currentCommand S = i := by
  rw [currentCommand, currentHost_of_cons queue]
  exact decode_encode i

theorem runsCommand_ofCommand {i : Instr} (legal : S.params.Legal) (queue : S.host_in = HostInput.ofCommand i :: hs) :
    RunsCommand S :=
  ⟨legal, by rw [currentHost_of_cons queue]; rfl⟩

end

/-- Settles O10: `applyReset` writes every register, and the input taken is the head of the queue. -/
theorem resetStepGivesTheResetState : Obligations.ResetStepGivesTheResetState := by
  intro S h hs legal queue rst
  have resets : IsResetStep S := ⟨legal, by rw [currentHost_of_cons queue, rst]⟩
  have taken : S.host_in.tail = hs := by rw [queue, List.tail_cons]
  rw [step_resets resets, ← taken]
  rfl

/-! ### A threshold for the next acquisition -/

/-- 40_host_commands.md R102 in IDLE: the threshold alone is written. -/
theorem step_setThreshold_of_idle {S : State} {v : Byte} {hs : List HostInput} (legal : S.params.Legal)
    (idle : S.phase = .idle) (queue : S.host_in = HostInput.ofCommand (.setThreshold v) :: hs) :
    step S = .next (S.beginStep.setCfgThr v) := by
  rw [step_runs (runsCommand_ofCommand legal queue), stepWrites_idle idle, currentCommand_ofCommand queue]
  rfl

theorem acceptsAcquire_ofCommand {S : State} {a : Byte} {hs : List HostInput} (legal : S.params.Legal)
    (idle : S.phase = .idle) (queue : S.host_in = HostInput.ofCommand (.acquire a) :: hs) : AcceptsAcquire S :=
  ⟨runsCommand_ofCommand legal queue, presentsAcquire_iff.2 ⟨a, currentCommand_ofCommand queue⟩, idle⟩

theorem step_acquired {S : State} (accepts : AcceptsAcquire S) : step S = .next S.acquired := by
  rw [step_runs accepts.1, stepWrites_accepts accepts, State.acquired]

/-- Settles O29: SET_THRESHOLD leaves IDLE and the ACQUIRE next in the queue, which copies the `cfg_thr` of its pre-state. -/
theorem thresholdSetBeforeAcquireIsLatched : Obligations.ThresholdSetBeforeAcquireIsLatched := by
  intro S v a hs legal idle queue
  have next : (S.beginStep.setCfgThr v).host_in = HostInput.ofCommand (.acquire a) :: hs := congrArg List.tail queue
  have accepts : AcceptsAcquire (S.beginStep.setCfgThr v) := acceptsAcquire_ofCommand legal idle next
  exact ⟨_, _, step_setThreshold_of_idle legal idle queue, rfl, rfl, step_acquired accepts, rfl, rfl⟩

/-! ### A whole acquisition -/

/-- The first SAMPLE state of the acquisition that the step from `S` starts, with whatever `cfg_thr` the commands left
(41_start_sequence.md R122). -/
def State.firstSample (S : State) (thr : Byte) : State :=
  (S.acquired.takeInputs (startSteps S.params)).enterSample.setCfgThr thr

theorem runSteps_firstSample {S : State} (accepts : AcceptsAcquire S) (noReset : NoReset S) :
    ∃ thr : Byte, runSteps (1 + startSteps S.params) S = .next (S.firstSample thr) :=
  runSteps_startSequence accepts noReset

theorem noReset_firstSample {S : State} (h : NoReset S) (thr : Byte) : NoReset (S.firstSample thr) :=
  noReset_takeInputs (noReset_acquired h) _

/-- 40_host_commands.md R101: the accepting step cleared the results, and the start sequence leaves them. -/
theorem resultsCleared_firstSample (S : State) (thr : Byte) : ResultsCleared (S.firstSample thr) :=
  ⟨rfl, rfl, rfl, rfl, rfl, rfl, rfl, rfl⟩

/-- The levels before step base(k) are those of the accepting step and of the start sequence. -/
theorem firstSample_line_in {S : State} {before samples : List Level} (base : before.length = firstSampleStep S.params 0)
    (queue : S.line_in = before ++ samples) (thr : Byte) : (S.firstSample thr).line_in = samples := by
  have taken : startSteps S.params + 1 = before.length := by rw [base, firstSampleStep, Nat.zero_add]
  calc S.line_in.tail.drop (startSteps S.params) = (before ++ samples).drop before.length := by
        rw [List.drop_tail, queue, taken]
    _ = samples := List.drop_left

/-- Settles O55: L + H steps after the accepting one sampling begins, at the `cfg_thr` that step latched and with the trace
at the head of the queue; the rest is O54. -/
theorem acquisitionDecodesItsTrace : Obligations.AcquisitionDecodesItsTrace := by
  intro S ds before rest accepts noReset valid base queue
  have ⟨⟨legal, _⟩, _⟩ := accepts
  obtain ⟨thr, started⟩ := runSteps_firstSample accepts noReset
  have trace : (S.firstSample thr).line_in = samplesOf S.params ds ++ rest :=
    firstSample_line_in base (queue.trans (List.append_assoc ..)) thr
  have ⟨_, decoded⟩ := samplingDecodesTheRunLengths (S.firstSample thr) ds rest legal rfl rfl rfl rfl rfl rfl
    (resultsCleared_firstSample S thr) (noReset_firstSample noReset thr) valid trace
  have steps : completingStep S.params 0 (samplesOf S.params ds).length + 1 =
      1 + startSteps S.params + (samplesOf S.params ds).length := by
    rw [completingStep]; omega
  rw [steps, runSteps_add started]
  exact decoded

/-! ### The quiescent interval -/

/-- 70_reset_and_hazards.md R254: the interval is a rounded-up quotient. -/
theorem quiescentSteps_eq_ceilDiv (t : TickPeriod) : quiescentSteps t = (1000000000 * t.den) ⌈/⌉ t.num :=
  (Nat.ceilDiv_eq_add_pred_div _ _).symm

/-- Settles O57: a rounded-up quotient is the least number whose product reaches the dividend. -/
theorem quiescentIntervalInSteps : Obligations.QuiescentIntervalInSteps := by
  refine ⟨fun t n ⟨numPos, _⟩ => ?_, by decide⟩
  rw [quiescentSteps_eq_ceilDiv, ceilDiv_le_iff_le_mul numPos, Nat.mul_comm t.num n]

end Sys2Proof.Machine
end

section
/-! How a command reaches the step: a word placed for it (O4), and an empty queue (O9). -/

namespace Sys2Proof.Machine

/-! ### A placed word -/

theorem decodeTableWord_eq_some_iff {nbits w : Nat} {i : Instr} :
    decodeTableWord nbits w = some i ↔ w % 2 ^ nbits < 2 ^ 10 ∧ decode (BitVec.ofNat 10 (w % 2 ^ nbits)) = i := by
  rw [decodeTableWord, decodeNumber]
  by_cases fits : w % 2 ^ nbits < 2 ^ 10
  · rw [if_pos fits]
    simp only [fits, true_and, Option.some.injEq]
  · rw [if_neg fits]
    simp only [fits, false_and, reduceCtorEq]

/-- The decoder puts the two fields of a placed word together again (30_encoding.md R70). -/
theorem currentCommand_withFetchWord (s : State) (nbits w : Nat) :
    currentCommand (s.withFetchWord nbits w) = decode (BitVec.ofNat 10 (w % 2 ^ nbits)) := by
  rw [currentCommand, currentHost_of_cons rfl, commandWord_fields]

/-- Settles O4: the word is placed as its two fields, and a row's word fits the ten bits that the decoder reads. -/
theorem placedWordIsTheNextCommand : Obligations.PlacedWordIsTheNextCommand := by
  intro s nbits w i row
  have ⟨_, decoded⟩ := decodeTableWord_eq_some_iff.mp row
  exact ⟨(currentCommand_withFetchWord s nbits w).trans decoded, rfl⟩

/-! ### An empty queue -/

section
variable {S : State}

theorem currentHost_of_nil (empty : S.host_in = []) : currentHost S = HostInput.nop := by
  simp only [currentHost, empty]

theorem currentHost_withNop : currentHost S.withNop = HostInput.nop := rfl

theorem beginStep_withNop (empty : S.host_in = []) : S.withNop.beginStep = S.beginStep := by
  simp only [State.beginStep, State.consumeInputs, State.withNop, empty, List.tail_cons, List.tail_nil]

/-- A phase action does not read the host's queue of its pre-state. -/
theorem phaseAction_withNop (line : Level) (post : State) : phaseAction S.withNop line post = phaseAction S line post :=
  calc phaseAction S.withNop line post
      = (phaseAction S line post).setHost post.cfg_thr post.host_in :=
        phaseAction_setHost S line post S.cfg_thr post.cfg_thr S.withNop.host_in post.host_in
    _ = phaseAction S line post := by
      rw [← phaseAction_cfg_thr S line post, ← phaseAction_host_in S line post]
      rfl

theorem stepWrites_withNop (empty : S.host_in = []) : stepWrites S.withNop = stepWrites S := by
  have command : currentCommand S.withNop = currentCommand S := by
    rw [currentCommand, currentCommand, currentHost_withNop, currentHost_of_nil empty]
  rw [stepWrites, stepWrites, phaseAction_withNop, command, beginStep_withNop empty]
  rfl

end

/-- Settles O9: with nothing queued the host presents the NOP that `withNop` queues, the input taken leaves both queues
empty, and no phase action reads the queue. -/
theorem emptyHostQueueIsNop : Obligations.EmptyHostQueueIsNop := by
  intro S empty
  have queued : { S with host_in := [{ rst := false, cmd := 0b00#2, cmd_arg := 0#8 }] } = S.withNop := by
    rw [State.withNop, empty]
    rfl
  rw [queued]
  by_cases legal : S.params.Legal
  · have noReset : (currentHost S).rst = false := by rw [currentHost_of_nil empty]; rfl
    rw [step_runs ⟨legal, noReset⟩, step_runs (S := S.withNop) ⟨legal, rfl⟩, stepWrites_withNop empty]
  · rw [step_illegal legal, step_illegal (S := S.withNop) legal]

end Sys2Proof.Machine
end
